-- ==== Sys2Proof/Word.lean ====
section
/-! DEFINITION. The word types of the block (00_scope.md R6): every value is unsigned, bit 0 is its
least significant bit, arithmetic wraps at the width. -/

namespace Sys2Proof

/-- A register, store or cipher word (20_memory.md R46). -/
abbrev Word := BitVec 16

/-- A byte of the firmware image, of a frame, or to the decoder. -/
abbrev Byte := BitVec 8

/-- A store address, a cursor or a sample counter: the spec's `u32` (R6). -/
abbrev Addr := BitVec 32

/-- A transaction word `TXN` (30_encoding.md R60). -/
abbrev Txn := BitVec 24

/-- The frame delimiter `DELIM` (R5). -/
def delim : Byte := 0xC0

/-- `FW_BYTES`, the firmware image's length in bytes (R5). -/
def fwBytes : Nat := 41337

/-- `FW_BITS`, the bits of a full load (R5). -/
def fwBits : Nat := 330696

/-- `M`, the store and transfer address mask (R5). -/
def addrMask : Addr := 0x01FFFFFE

end Sys2Proof
end

