-- ==== Sys2Proof/Syntax.lean ====
section
/-! DEFINITION. The operations of the block as syntax (30_encoding.md R60 to R64): register selectors,
access kinds, and `Instr`, one constructor for each row of the opcode table. -/

namespace Sys2Proof

/-- The kind of a bus transaction (30_encoding.md R60): write, side-effecting read, inspection read. -/
inductive Access where
  | wr
  | rd
  | ird
deriving DecidableEq, Repr

/-- The register selectors (30_encoding.md R63). -/
inductive Selector where
  | fwStatus
  | fwData
  | ramWaddrHi
  | ramWaddrLo
  | ramRaddrHi
  | ramRaddrLo
  | ramData
  | ramCtrl
  | mpegStartHi
  | mpegStartLo
  | mpegEndHi
  | mpegEndLo
  | mpegKey1
  | mpegKey2
  | mpegKey3
  | mpegStatus
  | mpegCtrl
  | timerHi
  | timerLo
  | timerDiff
  | ident
  | idBank
  | netData
  | netOutSize
  | netInSize
  | netReset
  | netId
  | out0
  | out1
  | out2
  | out3
  | unmapped
deriving DecidableEq, Repr

/-- A host bus access before it is a transaction (20_memory.md R40, R47; 30_encoding.md R61): its kind,
its byte address in the register window, its width in bits, and the value a write carries. -/
structure HostAccess where
  kind  : Access
  addr  : BitVec 8
  width : Nat
  data  : Word
deriving DecidableEq, Repr

/-- One operation: a WR with the 16 bits it writes, an RD or IRD (their `data` field is ignored), or an
event, with its argument bit where it has one (30_encoding.md R60, R62, R64, R67). -/
inductive Instr where
  /-- `wr FW_STATUS`, R104. -/
  | wrFwStatus (data : Word)
  /-- `rd FW_STATUS`, R100. -/
  | rdFwStatus
  /-- `ird FW_STATUS`, R100. -/
  | irdFwStatus
  /-- `wr FW_DATA`, R105. -/
  | wrFwData (data : Word)
  /-- `rd FW_DATA`, R108. -/
  | rdFwData
  /-- `ird FW_DATA`, R108. -/
  | irdFwData
  /-- `wr RAM_WADDR_HI`, R130. -/
  | wrRamWaddrHi (data : Word)
  /-- `rd RAM_WADDR_HI`, R83. -/
  | rdRamWaddrHi
  /-- `ird RAM_WADDR_HI`, R83. -/
  | irdRamWaddrHi
  /-- `wr RAM_WADDR_LO`, R131. -/
  | wrRamWaddrLo (data : Word)
  /-- `rd RAM_WADDR_LO`, R83. -/
  | rdRamWaddrLo
  /-- `ird RAM_WADDR_LO`, R83. -/
  | irdRamWaddrLo
  /-- `wr RAM_RADDR_HI`, R132. -/
  | wrRamRaddrHi (data : Word)
  /-- `rd RAM_RADDR_HI`, R83. -/
  | rdRamRaddrHi
  /-- `ird RAM_RADDR_HI`, R83. -/
  | irdRamRaddrHi
  /-- `wr RAM_RADDR_LO`, R133. -/
  | wrRamRaddrLo (data : Word)
  /-- `rd RAM_RADDR_LO`, R83. -/
  | rdRamRaddrLo
  /-- `ird RAM_RADDR_LO`, R83. -/
  | irdRamRaddrLo
  /-- `wr RAM_DATA`, R136. -/
  | wrRamData (data : Word)
  /-- `rd RAM_DATA`, R134. -/
  | rdRamData
  /-- `ird RAM_DATA`, R135. -/
  | irdRamData
  /-- `wr RAM_CTRL`, R83. -/
  | wrRamCtrl (data : Word)
  /-- `rd RAM_CTRL`, R83. -/
  | rdRamCtrl
  /-- `ird RAM_CTRL`, R83. -/
  | irdRamCtrl
  /-- `wr MPEG_START_HI`, R180. -/
  | wrMpegStartHi (data : Word)
  /-- `rd MPEG_START_HI`, R83. -/
  | rdMpegStartHi
  /-- `ird MPEG_START_HI`, R83. -/
  | irdMpegStartHi
  /-- `wr MPEG_START_LO`, R181. -/
  | wrMpegStartLo (data : Word)
  /-- `rd MPEG_START_LO`, R83. -/
  | rdMpegStartLo
  /-- `ird MPEG_START_LO`, R83. -/
  | irdMpegStartLo
  /-- `wr MPEG_END_HI`, R182. -/
  | wrMpegEndHi (data : Word)
  /-- `rd MPEG_END_HI`, R83. -/
  | rdMpegEndHi
  /-- `ird MPEG_END_HI`, R83. -/
  | irdMpegEndHi
  /-- `wr MPEG_END_LO`, R183. -/
  | wrMpegEndLo (data : Word)
  /-- `rd MPEG_END_LO`, R83. -/
  | rdMpegEndLo
  /-- `ird MPEG_END_LO`, R83. -/
  | irdMpegEndLo
  /-- `wr MPEG_KEY1`, R160. -/
  | wrMpegKey1 (data : Word)
  /-- `rd MPEG_KEY1`, R83. -/
  | rdMpegKey1
  /-- `ird MPEG_KEY1`, R83. -/
  | irdMpegKey1
  /-- `wr MPEG_KEY2`, R161. -/
  | wrMpegKey2 (data : Word)
  /-- `rd MPEG_KEY2`, R83. -/
  | rdMpegKey2
  /-- `ird MPEG_KEY2`, R83. -/
  | irdMpegKey2
  /-- `wr MPEG_KEY3`, R162. -/
  | wrMpegKey3 (data : Word)
  /-- `rd MPEG_KEY3`, R83. -/
  | rdMpegKey3
  /-- `ird MPEG_KEY3`, R83. -/
  | irdMpegKey3
  /-- `wr MPEG_STATUS`, R193. -/
  | wrMpegStatus (data : Word)
  /-- `rd MPEG_STATUS`, R192. -/
  | rdMpegStatus
  /-- `ird MPEG_STATUS`, R192. -/
  | irdMpegStatus
  /-- `wr MPEG_CTRL`, R190. -/
  | wrMpegCtrl (data : Word)
  /-- `rd MPEG_CTRL`, R191. -/
  | rdMpegCtrl
  /-- `ird MPEG_CTRL`, R191. -/
  | irdMpegCtrl
  /-- `wr TIMER_HI`, R83. -/
  | wrTimerHi (data : Word)
  /-- `rd TIMER_HI`, R194. -/
  | rdTimerHi
  /-- `ird TIMER_HI`, R198. -/
  | irdTimerHi
  /-- `wr TIMER_LO`, R197. -/
  | wrTimerLo (data : Word)
  /-- `rd TIMER_LO`, R195. -/
  | rdTimerLo
  /-- `ird TIMER_LO`, R198. -/
  | irdTimerLo
  /-- `wr TIMER_DIFF`, R83. -/
  | wrTimerDiff (data : Word)
  /-- `rd TIMER_DIFF`, R196. -/
  | rdTimerDiff
  /-- `ird TIMER_DIFF`, R198. -/
  | irdTimerDiff
  /-- `wr IDENT`, R277. -/
  | wrIdent (data : Word)
  /-- `rd IDENT`, R270. -/
  | rdIdent
  /-- `ird IDENT`, R271. -/
  | irdIdent
  /-- `wr ID_BANK`, R83. -/
  | wrIdBank (data : Word)
  /-- `rd ID_BANK`, R278. -/
  | rdIdBank
  /-- `ird ID_BANK`, R278. -/
  | irdIdBank
  /-- `wr NET_DATA`, R232. -/
  | wrNetData (data : Word)
  /-- `rd NET_DATA`, R233. -/
  | rdNetData
  /-- `ird NET_DATA`, R234. -/
  | irdNetData
  /-- `wr NET_OUT_SIZE`, R83. -/
  | wrNetOutSize (data : Word)
  /-- `rd NET_OUT_SIZE`, R235. -/
  | rdNetOutSize
  /-- `ird NET_OUT_SIZE`, R235. -/
  | irdNetOutSize
  /-- `wr NET_IN_SIZE`, R83. -/
  | wrNetInSize (data : Word)
  /-- `rd NET_IN_SIZE`, R236. -/
  | rdNetInSize
  /-- `ird NET_IN_SIZE`, R236. -/
  | irdNetInSize
  /-- `wr NET_RESET`, R237. -/
  | wrNetReset (data : Word)
  /-- `rd NET_RESET`, R83. -/
  | rdNetReset
  /-- `ird NET_RESET`, R83. -/
  | irdNetReset
  /-- `wr NET_ID`, R238. -/
  | wrNetId (data : Word)
  /-- `rd NET_ID`, R83. -/
  | rdNetId
  /-- `ird NET_ID`, R83. -/
  | irdNetId
  /-- `wr OUT_0`, R273. -/
  | wrOut0 (data : Word)
  /-- `rd OUT_0`, R83. -/
  | rdOut0
  /-- `ird OUT_0`, R83. -/
  | irdOut0
  /-- `wr OUT_1`, R274. -/
  | wrOut1 (data : Word)
  /-- `rd OUT_1`, R83. -/
  | rdOut1
  /-- `ird OUT_1`, R83. -/
  | irdOut1
  /-- `wr OUT_2`, R275. -/
  | wrOut2 (data : Word)
  /-- `rd OUT_2`, R83. -/
  | rdOut2
  /-- `ird OUT_2`, R83. -/
  | irdOut2
  /-- `wr OUT_3`, R276. -/
  | wrOut3 (data : Word)
  /-- `rd OUT_3`, R83. -/
  | rdOut3
  /-- `ird OUT_3`, R83. -/
  | irdOut3
  /-- `wr UNMAPPED`, R82. -/
  | wrUnmapped (data : Word)
  /-- `rd UNMAPPED`, R82. -/
  | rdUnmapped
  /-- `ird UNMAPPED`, R82. -/
  | irdUnmapped
  /-- `ev EV_RESET`, R321. -/
  | evReset
  /-- `ev EV_FRAMESYNC`, R203. -/
  | evFrameSync (b : Bool)
  /-- `ev EV_DEMAND`, R204. -/
  | evDemand (b : Bool)
  /-- `ev EV_CRCERROR`, R206. -/
  | evCrcError (b : Bool)
  /-- `ev EV_FRAMEID`, R205. -/
  | evFrameId (b : Bool)
  /-- `ev EV_TICK`, R200. -/
  | evTick
  /-- `ev EV_PUMP`, R242. -/
  | evPump
deriving DecidableEq, Repr

end Sys2Proof
end

