-- ==== Sys2Proof/Config.lean ====
section
/-! DEFINITION. The implementation parameters the spec leaves OPEN (00_scope.md R5). Each field ranges over
exactly the values R5 admits: a place among distinct bits is a permutation's value, a number of at least 1
is written as one less. The machine runs at `Config.board`, an opaque constant: no proof can see a
parameter's value, so a claim holds for every value (log 7). -/

namespace Sys2Proof

/-- The OPEN parameters of 00_scope.md R5. -/
structure Config where
  /-- `FW_CHECKSUM`, the checksum over the 41337-byte image. -/
  fwChecksum : Vector Byte fwBytes → BitVec 32
  /-- `ALT_CHECKSUM`, the checksum that selects the Alternate cipher. -/
  altChecksum : BitVec 32
  /-- `STORE_WORDS - 1`: the store has 1 to 2^24 words. -/
  storeLast : BitVec 24
  /-- `STORE_EN`, the store's external enable flag, fixed for a run. -/
  storeEn : Bool
  /-- `NUM_PORTS - 1`: there is at least one port. -/
  morePorts : Nat
  /-- The slot of each even bus address `2 * a`: the first 31 slots are the registers of
  30_encoding.md R63 in its order, `ID_BANK` among them, so every register has exactly one slot. -/
  addrSlot : Equiv.Perm (Fin 128)
  /-- Which of the remaining even addresses also decode to `ID_BANK`; the rest are unmapped. -/
  moreBank : Fin 128 → Bool
  /-- The places 0, 1, 2 of `CTRL_STREAM_BIT`, `CTRL_MPEG_BIT`, `CTRL_FCE_BIT`, pairwise distinct. -/
  ctrlPlace : Equiv.Perm (Fin 16)
  /-- The places 0 to 3 of `STAT_DEMAND_BIT`, `STAT_CRC_BIT`, `STAT_PLAY_BIT`, `STAT_EN_BIT`, pairwise
  distinct. -/
  statPlace : Equiv.Perm (Fin 16)
  /-- `ALT_TIMER_HI_VALUE`, the placeholder of a timer-high read under the Alternate variant. -/
  altTimerHi : Word
  /-- `PUMP_HZ`, informative: no rule reads it. -/
  pumpHz : Nat
deriving Inhabited

/-- The parameters of the block the machine models: OPEN, so a constant with no body (log 7). -/
opaque Config.board : Config

/-- `TICK_HZ`, informative: no rule reads it (70_reset_and_hazards.md R332). -/
def Config.tickHz : Nat := 44100

/-- `STORE_WORDS`, the store's length in words (00_scope.md R5). -/
def Config.storeWords (c : Config) : Nat := c.storeLast.toNat + 1

/-- `NUM_PORTS`, the number of serial ports (00_scope.md R5). -/
def Config.numPorts (c : Config) : Nat := c.morePorts + 1

/-- `CTRL_STREAM_BIT`. -/
def Config.streamBit (c : Config) : Nat := (c.ctrlPlace 0).val
/-- `CTRL_MPEG_BIT`. -/
def Config.mpegBit (c : Config) : Nat := (c.ctrlPlace 1).val
/-- `CTRL_FCE_BIT`. -/
def Config.fceBit (c : Config) : Nat := (c.ctrlPlace 2).val
/-- `STAT_DEMAND_BIT`. -/
def Config.demandBit (c : Config) : Nat := (c.statPlace 0).val
/-- `STAT_CRC_BIT`. -/
def Config.crcBit (c : Config) : Nat := (c.statPlace 1).val
/-- `STAT_PLAY_BIT`. -/
def Config.playBit (c : Config) : Nat := (c.statPlace 2).val
/-- `STAT_EN_BIT`. -/
def Config.enBit (c : Config) : Nat := (c.statPlace 3).val

/-- The registers that have a slot, in the order of 30_encoding.md R63. -/
def Config.slots : List Selector :=
  [ .fwStatus, .fwData, .ramWaddrHi, .ramWaddrLo, .ramRaddrHi, .ramRaddrLo, .ramData, .ramCtrl,
    .mpegStartHi, .mpegStartLo, .mpegEndHi, .mpegEndLo, .mpegKey1, .mpegKey2, .mpegKey3, .mpegStatus,
    .mpegCtrl, .timerHi, .timerLo, .timerDiff, .ident, .idBank, .netData, .netOutSize, .netInSize,
    .netReset, .netId, .out0, .out1, .out2, .out3 ]

/-- `ADDR_SEL` of the even bus address `2 * a` (20_memory.md R40): the register whose slot it is, else
`ID_BANK` or `UNMAPPED`. -/
def Config.addrSel (c : Config) (a : Fin 128) : Selector :=
  match Config.slots[(c.addrSlot a).val]? with
  | some sel => sel
  | none => if c.moreBank a then .idBank else .unmapped

end Sys2Proof
end

