-- ==== Sys2Proof/Machine/State.lean ====
section
/-! DEFINITION. The state of the block: the spec's record `S` (10_state.md R11 to R33), component by
component, and three fields of the model's own, for the environment and the value returned to the host. -/

namespace Sys2Proof.Machine

/-- A sparse store of bytes by index: entries in strictly rising order, none equal to 0x00, which is what
an unlisted index reads as (10_state.md R12, R17: every byte is zero at reset; log 8, log 9). -/
abbrev Memory := List Host.Cell

/-- A sparse table of byte lists by port, in the same form: an unlisted port's list is empty (log 10). -/
abbrev PortTable := List (Nat × List Byte)

/-- The firmware load state machine, component 1 (10_state.md R12 to R15). -/
structure FirmwareLoad where
  status       : Word
  initialized  : Bool
  preInit      : Bool
  bitsReceived : BitVec 32
  pendingByte  : Byte
  image        : Memory
deriving DecidableEq, Repr

/-- The address window store, component 2 (10_state.md R17, R18). -/
structure AddressWindow where
  words         : Memory
  writeAddr     : Addr
  readAddr      : Addr
  lastValidRead : Word
deriving DecidableEq, Repr

/-- The cipher variants (10_state.md R20). -/
inductive Variant where
  | default
  | alternate
deriving DecidableEq, Repr

/-- The stream cipher's keyed state, component 3 (10_state.md R20, R21). -/
structure CipherState where
  key1    : Word
  key2    : Word
  key3    : Byte
  variant : Variant
deriving DecidableEq, Repr

/-- The MPEG transfer engine, component 4 (10_state.md R22 to R26). -/
structure MpegChannel where
  currentAddr          : Addr
  endAddr              : Addr
  ctrl                 : Word
  demand               : Bool
  crcError             : Bool
  playing              : Bool
  frameCounter         : Word
  hasEnded             : Bool
  timerEnabled         : Bool
  pendingWord          : Word
  pendingByteCount     : Fin 3
  sampleCounter        : BitVec 32
  sampleCounterLatched : BitVec 32
deriving DecidableEq, Repr

/-- The identity bridge, component 5 (10_state.md R27). -/
structure IdentityBridge where
  cache : Word
deriving DecidableEq, Repr

/-- The network multiplexer, component 6 (10_state.md R28, R29). -/
structure NetState where
  inputFrame      : PortTable
  muxedInput      : List Byte
  outputFrame     : List Byte
  outputQueue     : List (List Byte)
  localId         : Word
  outputByteCount : Word
deriving DecidableEq, Repr

/-- The discrete output bank, component 7: eight 4-bit latches (10_state.md R30). -/
structure OutputBank where
  latch : Vector (BitVec 4) 8
deriving DecidableEq, Repr

/-- A call the block makes to an external collaborator (10_state.md R31). -/
inductive CallOut where
  /-- One byte to the decoder. -/
  | byteSink (b : Byte)
  /-- The decoder is told to reset its MPEG state. -/
  | resetMpegState
  /-- The identity chip's line is driven. -/
  | identityLine (v : Bool)
  /-- A discrete output line changes. -/
  | edge (line : Fin 32) (v : Bool)
  /-- One byte to a serial link. -/
  | portWrite (port : Nat) (b : Byte)
deriving DecidableEq, Repr

/-- Why an operation is refused (40_bus.md R84, 60_exceptions.md R301). These are the spec's reasons; a
refused operation sets the mark and is a next state (log 6). -/
inductive Reason where
  /-- WR, RD or IRD with a selector in 0x1F to 0x3E (30_encoding.md R65). -/
  | reservedSelector
  /-- An event id in 0x07 to 0x3F (30_encoding.md R66). -/
  | reservedEvent
  /-- An undescribed direction of a register, with the gate open (40_bus.md R83). -/
  | undocumentedAccess (sel : Selector) (kind : Access)
  /-- A host access that is not 16 bits wide at an even address (20_memory.md R47). -/
  | badWidthOrAlignment
  /-- A read of the identity bank, with the gate open (46_identity_output.md R278). -/
  | identityBank
deriving DecidableEq, Repr

/-- What one serial link supplies at a pump: `oracle.connected(i)` and `oracle.linkBytes(i)`
(45_network.md R240). -/
structure Link where
  connected : Bool
  bytes     : List Byte
deriving DecidableEq, Repr

/-- What the environment supplies at one operation (00_scope.md R7 `oracle`): the identity chip's line and
the links by port. A port past the end of the list is not connected and has no bytes (log 3). -/
structure Env where
  idLine : Bool
  links  : List Link
deriving DecidableEq, Repr

/-- An operation as the environment delivers it: a transaction word (30_encoding.md R60), or a host bus
access that the address decode turns into one (R61). -/
inductive Request where
  | word (t : Txn)
  | access (a : HostAccess)
deriving DecidableEq, Repr

/-- One operation delivered, with what the environment supplies at it. -/
structure Arrival where
  request : Request
  env     : Env
deriving DecidableEq, Repr

/-- The whole state. The fields down to `refused` are the spec's `S` (10_state.md R11); `pending`, `env`
and `returned` are the model's. -/
structure State where
  fw       : FirmwareLoad
  store    : AddressWindow
  cipher   : CipherState
  mpeg     : MpegChannel
  ident    : IdentityBridge
  net      : NetState
  out      : OutputBank
  /-- The call-outs so far, oldest first (10_state.md R31). -/
  trace    : List CallOut
  /-- The refusal mark (10_state.md R32): none is false, some reason is true (log 5). -/
  refused  : Option Reason
  /-- The operations delivered and not yet performed, oldest first (log 1). -/
  pending  : List Arrival
  /-- The environment's inputs at the operation in progress (log 3). -/
  env      : Env
  /-- The value the last operation returned to the host; a WR or EV returns none (30_encoding.md R61,
  log 4). -/
  returned : Option Word
deriving DecidableEq, Repr

/-- The block never faults and has no stuck state (60_exceptions.md R300, R302): no reason exists. -/
inductive Fault where
deriving DecidableEq, Repr

/-- Why the model answers no next state. -/
inductive Refusal where
  /-- Raised by `exec` for an instruction that has no meaning yet; no arm raises it now. Safe: nothing is
  claimed of the instruction. -/
  | notModelled (mnemonic : String)
  /-- Raised by every operation, and by `step`, in a state whose refusal mark is set: "a refused run takes
  no further step" (40_bus.md R80, R84; log 6). Safe: the spec gives no step there. -/
  | runRefused
deriving DecidableEq, Repr

/-- What an operation or a step answers. -/
abbrev Result := Host.Outcome State Fault Refusal

/-- Component 1 at power-on (70_reset_and_hazards.md R320). -/
def FirmwareLoad.reset : FirmwareLoad :=
  { status := 0, initialized := false, preInit := false, bitsReceived := 0, pendingByte := 0, image := [] }

/-- Component 2 at power-on and after a gate reset (70_reset_and_hazards.md R320, R322). -/
def AddressWindow.reset : AddressWindow :=
  { words := [], writeAddr := 0, readAddr := 0, lastValidRead := 0 }

/-- Component 3 at power-on and after a gate reset (70_reset_and_hazards.md R320, R322). -/
def CipherState.reset : CipherState := { key1 := 0, key2 := 0, key3 := 0, variant := .default }

/-- Component 4 at power-on and after a gate reset (70_reset_and_hazards.md R320, R322). -/
def MpegChannel.reset : MpegChannel :=
  { currentAddr := 0, endAddr := 0, ctrl := 0, demand := false, crcError := false, playing := false,
    frameCounter := 0, hasEnded := false, timerEnabled := false, pendingWord := 0, pendingByteCount := 0,
    sampleCounter := 0, sampleCounterLatched := 0 }

/-- Component 5 at power-on and after a gate reset (70_reset_and_hazards.md R320, R322). -/
def IdentityBridge.reset : IdentityBridge := { cache := 0 }

/-- Component 6 at power-on and after a gate reset (70_reset_and_hazards.md R320, R322). -/
def NetState.reset : NetState :=
  { inputFrame := [], muxedInput := [], outputFrame := [], outputQueue := [], localId := 0,
    outputByteCount := 0 }

/-- Component 7 at power-on and after a gate reset (70_reset_and_hazards.md R320, R322). -/
def OutputBank.reset : OutputBank := { latch := Vector.replicate 8 0 }

/-- An environment that holds the identity line low and connects no port: what `State.reset` holds before
any operation arrives (DESIGN CHOICE, log 3). -/
def Env.quiet : Env := { idLine := false, links := [] }

/-- Power-on reset, launch premise `PowerOn` (70_reset_and_hazards.md R320, R342), with no operation
delivered (log 1). -/
def State.reset : State :=
  { fw := FirmwareLoad.reset, store := AddressWindow.reset, cipher := CipherState.reset,
    mpeg := MpegChannel.reset, ident := IdentityBridge.reset, net := NetState.reset,
    out := OutputBank.reset, trace := [], refused := none, pending := [], env := Env.quiet,
    returned := none }

end Sys2Proof.Machine
end

