-- ==== Sys2Proof/Machine/Ops.lean ====
section
/-! DEFINITION. The operations every meaning is built from: sparse memory, the store's primitives
(20_memory.md R41 to R45), call-outs, the refusal that stands where a processor would take an exception
(40_bus.md R84), the gate check (R80, R81), and the resets (70_reset_and_hazards.md R321, R322). -/

namespace Sys2Proof.Machine

/-- What a sparse table reads at `a`; `d` where nothing is listed. -/
def sparseRead {α : Type} (d : α) : List (Nat × α) → Nat → α
  | [], _ => d
  | (k, v) :: m, a => if k = a then v else sparseRead d m a

/-- Writes `v` at `a`, keeping the canonical form: keys rise, and writing `d` lists nothing. -/
def sparseWrite {α : Type} [DecidableEq α] (d : α) : List (Nat × α) → Nat → α → List (Nat × α)
  | [], a, v => if v = d then [] else [(a, v)]
  | (k, w) :: m, a, v =>
    if a < k then (if v = d then (k, w) :: m else (a, v) :: (k, w) :: m)
    else if a = k then (if v = d then m else (a, v) :: m)
    else (k, w) :: sparseWrite d m a v

/-- The canonical form of a sparse table: keys strictly rising, no entry equal to `d`. -/
abbrev sparseWf {α : Type} (d : α) (m : List (Nat × α)) : Prop :=
  m.Pairwise (fun p q => p.1 < q.1) ∧ ∀ p ∈ m, p.2 ≠ d

/-- The byte at an index; an unlisted byte is 0x00, its reset contents (10_state.md R12, R17). -/
def Memory.read (m : Memory) (a : Nat) : Byte := sparseRead 0 m a

/-- Writes one byte. -/
def Memory.write (m : Memory) (a : Nat) (v : Byte) : Memory := sparseWrite 0 m a v

/-- The canonical form of a memory. -/
abbrev Memory.wf (m : Memory) : Prop := sparseWf (0 : Byte) m

/-- The word at an even byte address: the byte at `a` is its low half (log 8). -/
def Memory.readWord (m : Memory) (a : Nat) : Word := m.read (a + 1) ++ m.read a

/-- Writes the word at an even byte address. -/
def Memory.writeWord (m : Memory) (a : Nat) (v : Word) : Memory :=
  (m.write a (v.extractLsb' 0 8)).write (a + 1) (v.extractLsb' 8 8)

/-- A port's list of bytes. -/
def PortTable.read (t : PortTable) (i : Nat) : List Byte := sparseRead [] t i

/-- Replaces a port's list of bytes. -/
def PortTable.write (t : PortTable) (i : Nat) (b : List Byte) : PortTable := sparseWrite [] t i b

/-- The canonical form of a port table. -/
abbrev PortTable.wf (t : PortTable) : Prop := sparseWf ([] : List Byte) t

/-- The store's range test: the word index is below the length (20_memory.md R41). -/
def inRange (c : Config) (a : Addr) : Bool := decide ((a >>> 1).toNat < c.storeWords)

/-- The raw word read; none is the spec's `NONE`, out of range (20_memory.md R43). -/
def memRead (c : Config) (m : Memory) (a : Addr) : Option Word :=
  if inRange c a then some (m.readWord a.toNat) else none

/-- The raw word write; no effect out of range (20_memory.md R44). -/
def memWrite (c : Config) (m : Memory) (a : Addr) (v : Word) : Memory :=
  if inRange c a then m.writeWord a.toNat v else m

/-- Refreshes the stale-value latch from the word at `readAddr`; kept where out of range
(20_memory.md R45). -/
def AddressWindow.refreshLVR (c : Config) (w : AddressWindow) : AddressWindow :=
  { w with lastValidRead := (memRead c w.words w.readAddr).getD w.lastValidRead }

/-- The value an operation returns to the host, none for a WR or EV (30_encoding.md R61). -/
def State.answer (s : State) (v : Option Word) : State := { s with returned := v }

/-- `emit`: call-outs are appended to the trace (00_scope.md R7). -/
def State.emit (s : State) (es : List CallOut) : State := { s with trace := s.trace ++ es }

/-- `refuse(reason)`: only the mark changes, and nothing is returned (40_bus.md R84). It stands where a
processor would take an exception; there is none to take and none to return from (60_exceptions.md R300,
R305). -/
def State.refuse (s : State) (r : Reason) : State := { s with refused := some r, returned := none }

/-- `gateOpen()` (41_gate.md R107). -/
def State.gateOpen (s : State) : Bool := s.fw.initialized

/-- Performs an operation, unless the run is refused already: then no step is taken (40_bus.md R80,
R84). -/
def perform (s : State) (effect : State → State) : Result :=
  match s.refused with
  | none => .next (effect s)
  | some _ => .refused .runRefused

/-- A WR or EV that no gate check guards; it returns nothing (30_encoding.md R61). -/
def writeUngated (s : State) (effect : State → State) : Result :=
  perform s fun s => (effect s).answer none

/-- An RD or IRD that no gate check guards: the value it returns and its effect, both from the state
before. -/
def readUngated (s : State) (value : State → Word) (effect : State → State) : Result :=
  perform s fun s => (effect s).answer (some (value s))

/-- A WR of a functional register: no effect while the gate is closed (40_bus.md R81). -/
def writeGated (s : State) (effect : State → State) : Result :=
  writeUngated s fun s => if s.gateOpen then effect s else s

/-- What a functional register's read returns while the gate is closed (40_bus.md R81). -/
def sentinel : Word := 0xFFFF

/-- An RD or IRD of a functional register: the sentinel and no effect while the gate is closed
(40_bus.md R81). -/
def readGated (s : State) (value : State → Word) (effect : State → State) : Result :=
  readUngated s (fun s => if s.gateOpen then value s else sentinel)
    (fun s => if s.gateOpen then effect s else s)

/-- A read without side effect. -/
def peekGated (s : State) (value : State → Word) : Result := readGated s value id

/-- A WR of an undescribed direction: no effect while closed, refused while open (40_bus.md R81, R83). -/
def writeRefused (s : State) (r : Reason) : Result :=
  perform s fun s => if s.gateOpen then s.refuse r else s.answer none

/-- An RD or IRD refused while the gate is open, the sentinel while closed (40_bus.md R81, R83). -/
def readRefused (s : State) (r : Reason) : Result :=
  perform s fun s => if s.gateOpen then s.refuse r else s.answer (some sentinel)

/-- The undescribed write of a register (40_bus.md R83). -/
def writeUndocumented (sel : Selector) (s : State) : Result :=
  writeRefused s (.undocumentedAccess sel .wr)

/-- The undescribed read or inspection read of a register (40_bus.md R83). -/
def readUndocumented (sel : Selector) (kind : Access) (s : State) : Result :=
  readRefused s (.undocumentedAccess sel kind)

/-- Components 2 to 7 back at their reset values, with no call-out (70_reset_and_hazards.md R322). -/
def State.rezero (s : State) : State :=
  { s with store := AddressWindow.reset, cipher := CipherState.reset, mpeg := MpegChannel.reset,
           ident := IdentityBridge.reset, net := NetState.reset, out := OutputBank.reset }

/-- The gate reset; `status` is left to its caller (70_reset_and_hazards.md R322, 41_gate.md R103). -/
def State.gateReset (s : State) : State :=
  { s.rezero with fw := { FirmwareLoad.reset with status := s.fw.status } }

/-- The controller reset: every field of `S` but `trace` and `refused` (70_reset_and_hazards.md R321). -/
def State.controllerReset (s : State) : State := { s.rezero with fw := FirmwareLoad.reset }

end Sys2Proof.Machine
end

