-- ==== Sys2Proof/Machine/Bus.lean ====
section
/-! DEFINITION. The unmapped selector (40_bus.md R82) and the controller reset
(70_reset_and_hazards.md R321). Neither is gated. -/

namespace Sys2Proof.Machine

/-- `wr UNMAPPED`: no effect (40_bus.md R82). -/
def execWrUnmapped (_data : Word) (s : State) : Result := writeUngated s id

/-- `rd UNMAPPED`: 0xFFFF in every state (40_bus.md R82). -/
def execRdUnmapped (s : State) : Result := readUngated s (fun _ => 0xFFFF) id

/-- `ird UNMAPPED`: 0xFFFF in every state (40_bus.md R82). -/
def execIrdUnmapped (s : State) : Result := readUngated s (fun _ => 0xFFFF) id

/-- `ev EV_RESET` (70_reset_and_hazards.md R321). -/
def execEvReset (s : State) : Result := writeUngated s State.controllerReset

end Sys2Proof.Machine
end

