-- ==== Sys2Proof/Machine/Operands.lean ====
section
/-! DEFINITION. Operand assembly: the parts of a write's `data` that rules take (30_encoding.md R62), the
address halves, the cursor increment, and the bit notation of 00_scope.md R6 and R7. -/

namespace Sys2Proof.Machine

/-- A Boolean at bit `n` of a word: `zext_16(b) << n`. -/
def boolAt (b : Bool) (n : Nat) : Word := (BitVec.ofBool b).setWidth 16 <<< n

/-- A word with one bit cleared: `w & ~(1 << n)`. -/
def clearBit (w : Word) (n : Nat) : Word := w &&& ~~~((1 : Word) <<< n)

/-- `bitswap16`: the list names the source bit of each output bit, most significant output first
(00_scope.md R7). -/
def bitswap16 (x : Word) (src : List Nat) : Word :=
  src.foldl (fun acc k => (acc <<< 1) ||| boolAt (x.getLsbD k) 0) 0

/-- The two bytes of a word exchanged (44_mpeg_transfer.md R185). -/
def byteSwap (w : Word) : Word := (w <<< 8) ||| (w >>> 8)

/-- The firmware bit of a write, bit 15 (30_encoding.md R62). -/
def firmwareBit (data : Word) : Bool := data.getLsbD 15

/-- The low byte of a write: a network byte, or `key3` (30_encoding.md R62). -/
def lowByte (data : Word) : Byte := data.extractLsb' 0 8

/-- The output nibble of a write, bits 15:12 (30_encoding.md R62). -/
def outputNibble (data : Word) : BitVec 4 := data.extractLsb' 12 4

/-- The identity line a write drives: the inverse of bit 12 (46_identity_output.md R277). -/
def identityDrive (data : Word) : Bool := !data.getLsbD 12

/-- An address with its high half written, masked (42_window_store.md R130). -/
def withHighHalf (data : Word) (old : Addr) : Addr :=
  ((data.setWidth 32 <<< 16) ||| (old &&& 0x0000FFFF)) &&& addrMask

/-- An address with its low half written, masked (42_window_store.md R131). -/
def withLowHalf (data : Word) (old : Addr) : Addr :=
  ((old &&& 0xFFFF0000) ||| data.setWidth 32) &&& addrMask

/-- A cursor moved to the next word, masked (20_memory.md R42). -/
def nextAddr (a : Addr) : Addr := (a + 2) &&& addrMask

end Sys2Proof.Machine
end

