-- ==== Sys2Proof/Machine/Flags.lean ====
section
/-! DEFINITION. The block has no arithmetic flags (60_exceptions.md R300). Its status and control bits: the
firmware status word (10_state.md R13), the control bits and the status word of the transfer engine
(R23, R24), and "is streaming" (44_mpeg_transfer.md R184). -/

namespace Sys2Proof.Machine

/-- `ACCEPT`, bit 12 of the firmware status (10_state.md R13). -/
def FirmwareLoad.accept (f : FirmwareLoad) : Bool := f.status &&& 0x1000 != 0

/-- `LOADED`, bit 14 of the firmware status (10_state.md R13). -/
def FirmwareLoad.loaded (f : FirmwareLoad) : Bool := f.status &&& 0x4000 != 0

/-- The firmware status as read: bit 15 forced 1, bit 14 forced 0 (41_gate.md R100). -/
def FirmwareLoad.statusRead (f : FirmwareLoad) : Word := (f.status &&& ~~~0x4000) ||| 0x8000

/-- Streaming-enable of a control word (10_state.md R23). -/
def streamEn (c : Config) (ctrl : Word) : Bool := ctrl.getLsbD c.streamBit

/-- Mpeg-enable of a control word (10_state.md R23). -/
def mpegEn (c : Config) (ctrl : Word) : Bool := ctrl.getLsbD c.mpegBit

/-- Frame-counter-enable of a control word (10_state.md R23). -/
def frameCountEn (c : Config) (ctrl : Word) : Bool := ctrl.getLsbD c.fceBit

/-- "Is streaming" (44_mpeg_transfer.md R184). -/
def MpegChannel.isStreaming (c : Config) (m : MpegChannel) : Bool :=
  streamEn c m.ctrl && (m.currentAddr != m.endAddr || m.pendingByteCount != 0) && !m.hasEnded

/-- The control register as read: bit 12 reports "is streaming" (44_mpeg_transfer.md R191). -/
def MpegChannel.ctrlRead (c : Config) (m : MpegChannel) : Word :=
  (m.ctrl &&& ~~~0x1000) ||| boolAt (m.isStreaming c) 12

/-- The status word as read: three stored bits, `enabled` forced set, every other bit 0
(44_mpeg_transfer.md R192). -/
def MpegChannel.statusRead (c : Config) (m : MpegChannel) : Word :=
  boolAt m.demand c.demandBit ||| boolAt m.crcError c.crcBit ||| boolAt m.playing c.playBit |||
    boolAt true c.enBit

end Sys2Proof.Machine
end

