-- ==== Sys2Proof/Machine/Gate.lean ====
section
/-! DEFINITION. The firmware load state machine, "the gate": FW_STATUS and FW_DATA (41_gate.md). Neither
register is gated. -/

namespace Sys2Proof.Machine

/-- The arming step of a status write while the gate is closed (41_gate.md R101). -/
def FirmwareLoad.handshake1 (data : Word) (f : FirmwareLoad) : FirmwareLoad :=
  if !f.preInit && data &&& 0xA000 != 0 then
    { f with status := (f.status &&& ~~~0xA000) ||| 0x1000, preInit := true }
  else f

/-- The toggle step of a status write while the gate is closed (41_gate.md R102). -/
def FirmwareLoad.handshake2 (data : Word) (f : FirmwareLoad) : FirmwareLoad :=
  if data &&& 0x5000 != 0 then
    if f.preInit then { f with status := f.status ^^^ 0x1000 } else { f with preInit := true }
  else f

/-- A status write while the gate is open, with the gate-reset path (41_gate.md R103). -/
def State.statusWriteOpen (data : Word) (s : State) : State :=
  let s' := if s.fw.loaded && data &&& 0x4000 == 0 then s.gateReset else s
  { s' with fw := { s'.fw with status := data } }

/-- A status write: while closed the two steps, the second after the first (41_gate.md R104). -/
def State.statusWrite (data : Word) (s : State) : State :=
  if s.gateOpen then s.statusWriteOpen data
  else { s with fw := (s.fw.handshake1 data).handshake2 data }

/-- The 41337 bytes of the image, as `FW_CHECKSUM` takes them (00_scope.md R5). -/
def imageBytes (m : Memory) : Vector Byte fwBytes := Vector.ofFn fun i => m.read i.val

/-- The variant an image selects (41_gate.md R106). -/
def selectVariant (c : Config) (m : Memory) : Variant :=
  if c.fwChecksum (imageBytes m) = c.altChecksum then .alternate else .default

/-- Load completion (41_gate.md R106). -/
def State.loadComplete (c : Config) (s : State) : State :=
  { s with fw := { s.fw with status := s.fw.status ||| 0x6000, initialized := true },
           cipher := { s.cipher with variant := selectVariant c s.fw.image } }

/-- The pending byte with the next firmware bit, most significant bit first (41_gate.md R105). -/
def FirmwareLoad.withBit (b : Bool) (f : FirmwareLoad) : Byte :=
  f.pendingByte ||| ((BitVec.ofBool b).setWidth 8 <<< (7 - f.bitsReceived.toNat % 8))

/-- An accepted firmware bit: the count moves, and every eighth bit stores a byte (41_gate.md R105). -/
def FirmwareLoad.takeBit (b : Bool) (f : FirmwareLoad) : FirmwareLoad :=
  let n := f.bitsReceived + 1
  if n % 8 = 0 then
    { f with bitsReceived := n, image := f.image.write (n / 8 - 1).toNat (f.withBit b), pendingByte := 0 }
  else { f with bitsReceived := n, pendingByte := f.withBit b }

/-- A firmware data write: ignored once initialized or without `ACCEPT` (41_gate.md R105). -/
def State.firmwareBitWrite (c : Config) (data : Word) (s : State) : State :=
  if s.fw.initialized || !s.fw.accept then s
  else
    let s' := { s with fw := s.fw.takeBit (firmwareBit data) }
    if s'.fw.bitsReceived = BitVec.ofNat 32 fwBits then s'.loadComplete c else s'

/-- `wr FW_STATUS` (41_gate.md R104). -/
def execWrFwStatus (data : Word) (s : State) : Result := writeUngated s (State.statusWrite data)

/-- `rd FW_STATUS` (41_gate.md R100). -/
def execRdFwStatus (s : State) : Result := readUngated s (fun s => s.fw.statusRead) id

/-- `ird FW_STATUS`, identical to the read (41_gate.md R100). -/
def execIrdFwStatus (s : State) : Result := readUngated s (fun s => s.fw.statusRead) id

/-- `wr FW_DATA` (41_gate.md R105). -/
def execWrFwData (data : Word) (s : State) (c : Config := Config.board) : Result :=
  writeUngated s (State.firmwareBitWrite c data)

/-- `rd FW_DATA`: 0xFFFF while closed, refused while open (41_gate.md R108). -/
def execRdFwData (s : State) : Result := readUndocumented .fwData .rd s

/-- `ird FW_DATA` (41_gate.md R108). -/
def execIrdFwData (s : State) : Result := readUndocumented .fwData .ird s

end Sys2Proof.Machine
end

