-- ==== Sys2Proof/Machine/Identity.lean ====
section
/-! DEFINITION. The identity bridge and the discrete output bank (46_identity_output.md). Every register
is gated. -/

namespace Sys2Proof.Machine

/-- The identity read value of a line (46_identity_output.md R270). -/
def identityValue (line : Bool) : Word := boolAt line 12 ||| 0x0100

/-- The latch bit each of a latch's four lines shows (46_identity_output.md R272). -/
def lineShift : List Nat := [0, 2, 3, 1]

/-- The edges of one output write, in line order (46_identity_output.md R272). -/
def outEdges (t : Fin 4) (old new : BitVec 4) : List CallOut :=
  (List.range 4).filterMap fun i =>
    let k := lineShift.getD i 0
    if new.getLsbD k = old.getLsbD k then none
    else some (.edge (Fin.ofNat 32 (4 * t.val + i)) (new.getLsbD k))

/-- A latch of the bank. -/
def OutputBank.get (o : OutputBank) (t : Fin 8) : BitVec 4 := o.latch[t]

/-- A latch of the bank replaced. -/
def OutputBank.set (o : OutputBank) (t : Fin 8) (v : BitVec 4) : OutputBank := { latch := o.latch.set t v }

/-- The value of an output line (46_identity_output.md R279). -/
def OutputBank.line (o : OutputBank) (l : Fin 32) : Bool :=
  (o.get (Fin.ofNat 8 (l.val / 4))).getLsbD (lineShift.getD (l.val % 4) 0)

/-- The output write of tag `t`: the edges, then the new latch (46_identity_output.md R272). -/
def State.outWrite (t : Fin 4) (data : Word) (s : State) : State :=
  let k : Fin 8 := t.castLE (by decide)
  { s with out := s.out.set k (outputNibble data) }.emit (outEdges t (s.out.get k) (outputNibble data))

/-- `wr IDENT`: every write drives the line (46_identity_output.md R277). -/
def execWrIdent (data : Word) (s : State) : Result :=
  writeGated s fun s => s.emit [.identityLine (identityDrive data)]

/-- `rd IDENT`: the chip is consulted and the value cached (46_identity_output.md R270). -/
def execRdIdent (s : State) : Result :=
  readGated s (fun s => identityValue s.env.idLine)
    fun s => { s with ident := { cache := identityValue s.env.idLine } }

/-- `ird IDENT`: the cache (46_identity_output.md R271). -/
def execIrdIdent (s : State) : Result := peekGated s fun s => s.ident.cache

/-- `wr ID_BANK`, undescribed (40_bus.md R83). -/
def execWrIdBank (_data : Word) (s : State) : Result := writeUndocumented .idBank s

/-- `rd ID_BANK`: refused while open (46_identity_output.md R278). -/
def execRdIdBank (s : State) : Result := readRefused s .identityBank

/-- `ird ID_BANK`: refused while open (46_identity_output.md R278). -/
def execIrdIdBank (s : State) : Result := readRefused s .identityBank

/-- `wr OUT_0` (46_identity_output.md R273). -/
def execWrOut0 (data : Word) (s : State) : Result := writeGated s (State.outWrite 0 data)

/-- `rd OUT_0`, undescribed (40_bus.md R83). -/
def execRdOut0 (s : State) : Result := readUndocumented .out0 .rd s

/-- `ird OUT_0`, undescribed (40_bus.md R83). -/
def execIrdOut0 (s : State) : Result := readUndocumented .out0 .ird s

/-- `wr OUT_1` (46_identity_output.md R274). -/
def execWrOut1 (data : Word) (s : State) : Result := writeGated s (State.outWrite 1 data)

/-- `rd OUT_1`, undescribed (40_bus.md R83). -/
def execRdOut1 (s : State) : Result := readUndocumented .out1 .rd s

/-- `ird OUT_1`, undescribed (40_bus.md R83). -/
def execIrdOut1 (s : State) : Result := readUndocumented .out1 .ird s

/-- `wr OUT_2` (46_identity_output.md R275). -/
def execWrOut2 (data : Word) (s : State) : Result := writeGated s (State.outWrite 2 data)

/-- `rd OUT_2`, undescribed (40_bus.md R83). -/
def execRdOut2 (s : State) : Result := readUndocumented .out2 .rd s

/-- `ird OUT_2`, undescribed (40_bus.md R83). -/
def execIrdOut2 (s : State) : Result := readUndocumented .out2 .ird s

/-- `wr OUT_3` (46_identity_output.md R276). -/
def execWrOut3 (data : Word) (s : State) : Result := writeGated s (State.outWrite 3 data)

/-- `rd OUT_3`, undescribed (40_bus.md R83). -/
def execRdOut3 (s : State) : Result := readUndocumented .out3 .rd s

/-- `ird OUT_3`, undescribed (40_bus.md R83). -/
def execIrdOut3 (s : State) : Result := readUndocumented .out3 .ird s

end Sys2Proof.Machine
end

