-- ==== Sys2Proof/Machine/Network.lean ====
section
/-! DEFINITION. The network multiplexer: the framer, the NET registers, which are gated, and the pump
(45_network.md). -/

namespace Sys2Proof.Machine

/-- Frame completion on an appended buffer: a degenerate pair leaves one delimiter, a complete frame
leaves the buffer empty (45_network.md R231). -/
def complete (buf : List Byte) : List Byte × Option (List Byte) :=
  if buf.getLast? = some delim ∧ 1 < buf.length ∧ buf.head? = some delim then
    if buf.length = 2 then ([delim], none) else ([], some buf)
  else (buf, none)

/-- One byte offered to a buffer in progress: rejected, appended, or completing a frame
(45_network.md R230). -/
def frameStep (buf : List Byte) (b : Byte) : List Byte × Option (List Byte) :=
  if buf = [] ∧ b ≠ delim then (buf, none) else complete (buf ++ [b])

/-- The length of a frame or queue as a 16-bit count (45_network.md R232, R236). -/
def count16 {α : Type} (l : List α) : Word := BitVec.ofNat 16 l.length

/-- A byte written by the host: framed, and a completed frame queued (45_network.md R232). -/
def NetState.writeByte (b : Byte) (n : NetState) : NetState :=
  let r := frameStep n.outputFrame b
  match r.2 with
  | none => { n with outputFrame := r.1 }
  | some frame =>
    { n with outputFrame := r.1, outputQueue := n.outputQueue ++ [frame],
             outputByteCount := n.outputByteCount + count16 frame }

/-- The front byte of the inbound queue, zero-extended, or 0 (45_network.md R233, R234). -/
def NetState.front (n : NetState) : Word := (n.muxedInput.headD 0).setWidth 16

/-- The front byte popped (45_network.md R233). -/
def NetState.pop (n : NetState) : NetState := { n with muxedInput := n.muxedInput.tail }

/-- `networkReset`: `localId` is kept (45_network.md R239). -/
def NetState.networkReset (n : NetState) : NetState :=
  { n with outputByteCount := 0, muxedInput := [], outputFrame := [], outputQueue := [], inputFrame := [] }

/-- What a port supplies at this pump (45_network.md R240, log 3). -/
def Env.link (e : Env) (i : Nat) : Link := e.links.getD i { connected := false, bytes := [] }

/-- A completed inbound frame: appended whole, unless its origin id, byte 1, is the local id
(45_network.md R240, R244). -/
def NetState.acceptFrame (frame : List Byte) (n : NetState) : NetState :=
  if (frame.getD 1 0).setWidth 16 = n.localId then n else { n with muxedInput := n.muxedInput ++ frame }

/-- One byte received on a port (45_network.md R240). -/
def NetState.receive (i : Nat) (n : NetState) (b : Byte) : NetState :=
  let r := frameStep (n.inputFrame.read i) b
  let n' := { n with inputFrame := n.inputFrame.write i r.1 }
  match r.2 with
  | none => n'
  | some frame => n'.acceptFrame frame

/-- The bytes a port supplies, in order; a port that is not connected is not read (45_network.md R240). -/
def NetState.pumpPort (e : Env) (n : NetState) (i : Nat) : NetState :=
  if (e.link i).connected then (e.link i).bytes.foldl (NetState.receive i) n else n

/-- The inbound half of a pump, ports in ascending order (45_network.md R240). -/
def NetState.pumpInbound (c : Config) (e : Env) (n : NetState) : NetState :=
  (List.range c.numPorts).foldl (NetState.pumpPort e) n

/-- The connected ports in ascending order. -/
def connectedPorts (c : Config) (e : Env) : List Nat :=
  (List.range c.numPorts).filter fun i => (e.link i).connected

/-- The call-outs of one frame sent: each byte to every connected port (45_network.md R241). -/
def frameWrites (c : Config) (e : Env) (frame : List Byte) : List CallOut :=
  frame.flatMap fun b => (connectedPorts c e).map fun i => .portWrite i b

/-- The outbound half of a pump: at most one frame (45_network.md R241). -/
def State.pumpOutbound (c : Config) (s : State) : State :=
  match s.net.outputQueue with
  | [] => s
  | frame :: rest =>
    { s with net := { s.net with outputQueue := rest,
                                 outputByteCount := s.net.outputByteCount - count16 frame } }.emit
      (frameWrites c s.env frame)

/-- The pump: nothing while the gate is closed, else inbound, then outbound (45_network.md R242). -/
def State.pump (c : Config) (s : State) : State :=
  if s.gateOpen then { s with net := s.net.pumpInbound c s.env }.pumpOutbound c else s

/-- `wr NET_DATA`: only bits 7:0 are used (45_network.md R232). -/
def execWrNetData (data : Word) (s : State) : Result :=
  writeGated s fun s => { s with net := s.net.writeByte (lowByte data) }

/-- `rd NET_DATA` (45_network.md R233). -/
def execRdNetData (s : State) : Result :=
  readGated s (fun s => s.net.front) fun s => { s with net := s.net.pop }

/-- `ird NET_DATA` (45_network.md R234). -/
def execIrdNetData (s : State) : Result := peekGated s fun s => s.net.front

/-- `wr NET_OUT_SIZE`, undescribed (40_bus.md R83). -/
def execWrNetOutSize (_data : Word) (s : State) : Result := writeUndocumented .netOutSize s

/-- `rd NET_OUT_SIZE` (45_network.md R235). -/
def execRdNetOutSize (s : State) : Result := peekGated s fun s => s.net.outputByteCount

/-- `ird NET_OUT_SIZE` (45_network.md R235). -/
def execIrdNetOutSize (s : State) : Result := peekGated s fun s => s.net.outputByteCount

/-- `wr NET_IN_SIZE`, undescribed (40_bus.md R83). -/
def execWrNetInSize (_data : Word) (s : State) : Result := writeUndocumented .netInSize s

/-- `rd NET_IN_SIZE` (45_network.md R236). -/
def execRdNetInSize (s : State) : Result := peekGated s fun s => count16 s.net.muxedInput

/-- `ird NET_IN_SIZE` (45_network.md R236). -/
def execIrdNetInSize (s : State) : Result := peekGated s fun s => count16 s.net.muxedInput

/-- `wr NET_RESET`: the value written is not used (45_network.md R237). -/
def execWrNetReset (_data : Word) (s : State) : Result :=
  writeGated s fun s => { s with net := s.net.networkReset }

/-- `rd NET_RESET`, undescribed (40_bus.md R83). -/
def execRdNetReset (s : State) : Result := readUndocumented .netReset .rd s

/-- `ird NET_RESET`, undescribed (40_bus.md R83). -/
def execIrdNetReset (s : State) : Result := readUndocumented .netReset .ird s

/-- `wr NET_ID` (45_network.md R238). -/
def execWrNetId (data : Word) (s : State) : Result :=
  writeGated s fun s => { s with net := { s.net with localId := data } }

/-- `rd NET_ID`, undescribed (40_bus.md R83). -/
def execRdNetId (s : State) : Result := readUndocumented .netId .rd s

/-- `ird NET_ID`, undescribed (40_bus.md R83). -/
def execIrdNetId (s : State) : Result := readUndocumented .netId .ird s

/-- `ev EV_PUMP` (45_network.md R242). -/
def execEvPump (s : State) (c : Config := Config.board) : Result := writeUngated s (State.pump c)

end Sys2Proof.Machine
end

