-- ==== Sys2Proof/Machine/Cipher.lean ====
section
/-! DEFINITION. The stream cipher, both variants, as a transition from a keyed state and a word to a new
keyed state and a word (43_cipher.md), and the key registers, which are gated. -/

namespace Sys2Proof.Machine

/-- Exchanges bits `2j` and `2j+1` of a word. -/
def swapPair (v : Word) (j : Nat) : Word :=
  (v &&& ~~~((3 : Word) <<< (2 * j))) ||| boolAt (v.getLsbD (2 * j)) (2 * j + 1) |||
    boolAt (v.getLsbD (2 * j + 1)) (2 * j)

/-- The bit of the mask that decides each pair, `T` (43_cipher.md R151). -/
def pairTable : List (Nat × Nat) :=
  [(0, 0x2), (1, 0x3), (2, 0x5), (3, 0x8), (4, 0x9), (5, 0xB), (6, 0xE), (7, 0xF)]

/-- The pair swap (43_cipher.md R151). -/
def pairSwap (w m : Word) : Word :=
  pairTable.foldl (fun v p => if m.getLsbD p.2 then swapPair v p.1 else v) w

/-- Output position and mask bit of the mask XOR (43_cipher.md R152). -/
def maskTable : List (Nat × Nat) :=
  [(0, 0), (2, 1), (4, 4), (6, 6), (8, 7), (10, 10), (12, 12), (14, 13)]

/-- The mask XOR's value (43_cipher.md R152). -/
def maskXor (m : Word) : Word :=
  maskTable.foldl (fun acc p => acc ||| boolAt (m.getLsbD p.2) p.1) 0

/-- The counter mask `K3` (43_cipher.md R153). -/
def counterMask (k : Byte) : Word :=
  bitswap16 (k.setWidth 16) [7, 0, 6, 1, 5, 2, 4, 3, 3, 4, 2, 5, 1, 6, 0, 7]

/-- `key1` after a Default key step: bits 14:0 rotate left by one, bit 15 stays (43_cipher.md R154). -/
def key1Step (k1 : Word) : Word :=
  (k1 &&& 0x8000) ||| ((k1 <<< 1) &&& 0x7FFE) ||| ((k1 >>> 14) &&& 1)

/-- A 16-bit rotate left by one (43_cipher.md R154). -/
def rotateLeft1 (w : Word) : Word := (w <<< 1) ||| (w >>> 15)

/-- The Default key step; `key2` rotates when the updated `key1`'s bits 15 and 0 differ
(43_cipher.md R154). -/
def CipherState.keyStepDefault (k : CipherState) : CipherState :=
  let k1 := key1Step k.key1
  { k with key1 := k1,
           key2 := if k1.getLsbD 15 != k1.getLsbD 0 then rotateLeft1 k.key2 else k.key2,
           key3 := k.key3 + 1 }

/-- The Default word map: all three transforms use the keys from before the step (43_cipher.md R150). -/
def CipherState.mapDefault (k : CipherState) (w : Word) : Word :=
  let m := k.key1 ^^^ k.key2
  pairSwap w m ^^^ maskXor m ^^^ counterMask k.key3

/-- Each byte of the key-table word rotates left by one (43_cipher.md R156, 90_conflicts.md C6). -/
def rotateBytes (ks : Word) : Word := ((ks &&& 0x8080) >>> 7) ||| ((ks &&& 0x7F7F) <<< 1)

/-- `n` steps of the key table: the low byte, then the high byte, then the rotated word
(43_cipher.md R156). -/
def altKeySteps : Nat → Word → List Byte
  | 0, _ => []
  | n + 1, ks => ks.extractLsb' 0 8 :: ks.extractLsb' 8 8 :: altKeySteps n (rotateBytes ks)

/-- The Alternate key table, 16 bytes (43_cipher.md R156). -/
def altKeyTable (k1 : Word) : List Byte :=
  altKeySteps 8 (bitswap16 k1 [13, 11, 9, 7, 5, 3, 1, 15, 14, 12, 10, 8, 6, 4, 2, 0])

/-- The key byte index, `key3 mod 16` (43_cipher.md R157). -/
def keyIndex (k3 : Byte) : Nat := (k3 &&& 15).toNat

/-- The scramble byte index, `(key3 - 1) mod 16` (43_cipher.md R157). -/
def scrambleIndex (k3 : Byte) : Nat := ((k3 - 1) &&& 15).toNat

/-- One bit pair of the Alternate map: swapped where the scramble bit is set, then the even bit is XORed
with the key bit (43_cipher.md R155). -/
def altPair (w : Word) (kb sb : Byte) (b : Nat) : Word :=
  let e := w.getLsbD (2 * b)
  let o := w.getLsbD (2 * b + 1)
  let e' := if sb.getLsbD b then o else e
  let o' := if sb.getLsbD b then e else o
  boolAt (e' != kb.getLsbD b) (2 * b) ||| boolAt o' (2 * b + 1)

/-- The Alternate word map (43_cipher.md R155). -/
def CipherState.mapAlternate (k : CipherState) (w : Word) : Word :=
  let key := altKeyTable k.key1
  let kb := key.getD (keyIndex k.key3) 0
  let sb := key.getD (scrambleIndex k.key3) 0
  (List.range 8).foldl (fun out b => out ||| altPair w kb sb b) 0

/-- The Alternate key step: only `key3` moves (43_cipher.md R155). -/
def CipherState.keyStepAlternate (k : CipherState) : CipherState := { k with key3 := k.key3 + 1 }

/-- The decrypted word of an advance (43_cipher.md R158). -/
def CipherState.wordMap (k : CipherState) (w : Word) : Word :=
  match k.variant with
  | .default => k.mapDefault w
  | .alternate => k.mapAlternate w

/-- The keyed state after an advance; no word enters it (43_cipher.md R154, R155). -/
def CipherState.keyStep (k : CipherState) : CipherState :=
  match k.variant with
  | .default => k.keyStepDefault
  | .alternate => k.keyStepAlternate

/-- `advance`: the decrypted word and the new keyed state (43_cipher.md R158, 90_conflicts.md C5). -/
def CipherState.advance (k : CipherState) (w : Word) : Word × CipherState := (k.wordMap w, k.keyStep)

/-- `wr MPEG_KEY1` (43_cipher.md R160). -/
def execWrMpegKey1 (data : Word) (s : State) : Result :=
  writeGated s fun s => { s with cipher := { s.cipher with key1 := data } }

/-- `rd MPEG_KEY1`, undescribed (40_bus.md R83). -/
def execRdMpegKey1 (s : State) : Result := readUndocumented .mpegKey1 .rd s

/-- `ird MPEG_KEY1`, undescribed (40_bus.md R83). -/
def execIrdMpegKey1 (s : State) : Result := readUndocumented .mpegKey1 .ird s

/-- `wr MPEG_KEY2` (43_cipher.md R161). -/
def execWrMpegKey2 (data : Word) (s : State) : Result :=
  writeGated s fun s => { s with cipher := { s.cipher with key2 := data } }

/-- `rd MPEG_KEY2`, undescribed (40_bus.md R83). -/
def execRdMpegKey2 (s : State) : Result := readUndocumented .mpegKey2 .rd s

/-- `ird MPEG_KEY2`, undescribed (40_bus.md R83). -/
def execIrdMpegKey2 (s : State) : Result := readUndocumented .mpegKey2 .ird s

/-- `wr MPEG_KEY3`: only bits 7:0 are used (43_cipher.md R162). -/
def execWrMpegKey3 (data : Word) (s : State) : Result :=
  writeGated s fun s => { s with cipher := { s.cipher with key3 := lowByte data } }

/-- `rd MPEG_KEY3`, undescribed (40_bus.md R83). -/
def execRdMpegKey3 (s : State) : Result := readUndocumented .mpegKey3 .rd s

/-- `ird MPEG_KEY3`, undescribed (40_bus.md R83). -/
def execIrdMpegKey3 (s : State) : Result := readUndocumented .mpegKey3 .ird s

end Sys2Proof.Machine
end

