-- ==== Sys2Proof/Machine/Transfer.lean ====
section
/-! DEFINITION. The MPEG transfer engine: address, control, status and timer registers, the transfer tick
and the decoder's callbacks (44_mpeg_transfer.md). The registers are gated, the events are not
(40_bus.md R87). -/

namespace Sys2Proof.Machine

/-- The transfer engine's state replaced. -/
def State.withMpeg (m : MpegChannel) (s : State) : State := { s with mpeg := m }

/-- The word the engine fetches: 0 while the store is disabled or the address is out of range
(44_mpeg_transfer.md R185). -/
def fetchWord (c : Config) (w : AddressWindow) (a : Addr) : Word :=
  if c.storeEn then (memRead c w.words a).getD 0 else 0

/-- Word production: fetch, advance the cipher, byte-swap, two bytes pending (44_mpeg_transfer.md R185). -/
def State.produceWord (c : Config) (s : State) : State :=
  let r := s.cipher.advance (fetchWord c s.store s.mpeg.currentAddr)
  { s with cipher := r.2,
           mpeg := { s.mpeg with pendingWord := byteSwap r.1,
                                 currentAddr := nextAddr s.mpeg.currentAddr,
                                 pendingByteCount := 2 } }

/-- Sends the low pending byte to the decoder and moves the pipeline (44_mpeg_transfer.md R200). -/
def State.sendByte (s : State) : State :=
  (s.withMpeg { s.mpeg with pendingWord := s.mpeg.pendingWord >>> 8,
                            pendingByteCount := s.mpeg.pendingByteCount - 1 }).emit
    [.byteSink (lowByte s.mpeg.pendingWord)]

/-- The end-of-stream condition of a tick (44_mpeg_transfer.md R200). -/
def MpegChannel.atEnd (c : Config) (m : MpegChannel) : Bool :=
  !m.hasEnded && streamEn c m.ctrl && m.currentAddr == m.endAddr && m.pendingByteCount == 0

/-- The condition under which a tick sends a byte (44_mpeg_transfer.md R200). -/
def MpegChannel.sends (c : Config) (m : MpegChannel) : Bool :=
  m.demand && mpegEn c m.ctrl && streamEn c m.ctrl && !m.hasEnded

/-- The transfer tick (44_mpeg_transfer.md R200). -/
def State.tick (c : Config) (s : State) : State :=
  if !s.mpeg.demand then s
  else if s.mpeg.atEnd c then
    s.withMpeg { s.mpeg with hasEnded := true, ctrl := clearBit s.mpeg.ctrl c.streamBit }
  else if !s.mpeg.sends c then s
  else if s.mpeg.pendingByteCount = 0 then (s.produceWord c).sendByte
  else s.sendByte

/-- Streaming-enable and mpeg-enable both set in a control word. -/
def bothEn (c : Config) (ctrl : Word) : Bool := streamEn c ctrl && mpegEn c ctrl

/-- Streaming-enable or mpeg-enable falls from one control word to the next (44_mpeg_transfer.md R190). -/
def enableFalls (c : Config) (old new : Word) : Bool :=
  (streamEn c old && !streamEn c new) || (mpegEn c old && !mpegEn c new)

/-- The control write clears `hasEnded` and resets the decoder's state (44_mpeg_transfer.md R190). -/
def MpegChannel.endCleared (c : Config) (data : Word) (m : MpegChannel) : Bool :=
  m.hasEnded && enableFalls c m.ctrl data

/-- The control write starts the sample counters afresh (44_mpeg_transfer.md R190, R207). -/
def MpegChannel.startsBoth (c : Config) (v : Variant) (data : Word) (m : MpegChannel) : Bool :=
  !bothEn c m.ctrl && bothEn c data && v != .alternate

/-- The engine's fields after a control write; the old control bits are those before it
(44_mpeg_transfer.md R190). -/
def MpegChannel.ctrlWrite (c : Config) (v : Variant) (data : Word) (m : MpegChannel) : MpegChannel :=
  { m with
    ctrl := data
    frameCounter := if frameCountEn c data then m.frameCounter else 0
    sampleCounter := if m.startsBoth c v data then 0 else m.sampleCounter
    sampleCounterLatched := if m.startsBoth c v data then 0 else m.sampleCounterLatched
    hasEnded := m.hasEnded && !m.endCleared c data }

/-- The control write with its call-out (44_mpeg_transfer.md R190). -/
def State.ctrlWrite (c : Config) (data : Word) (s : State) : State :=
  (s.withMpeg (s.mpeg.ctrlWrite c s.cipher.variant data)).emit
    (if s.mpeg.endCleared c data then [.resetMpegState] else [])

/-- The value of a timer-high read (44_mpeg_transfer.md R194). -/
def State.timerHigh (c : Config) (s : State) : Word :=
  match s.cipher.variant with
  | .alternate => c.altTimerHi
  | .default => s.mpeg.sampleCounter.extractLsb' 16 16

/-- The value of a timer-low read (44_mpeg_transfer.md R195). -/
def MpegChannel.timerLow (m : MpegChannel) : Word := m.sampleCounter.extractLsb' 0 16

/-- The value of a timer diff read (44_mpeg_transfer.md R196). -/
def MpegChannel.timerDiff (m : MpegChannel) : Word :=
  (m.sampleCounter - m.sampleCounterLatched).extractLsb' 0 16

/-- The counter is latched (44_mpeg_transfer.md R194, R195). -/
def State.latchTimer (s : State) : State :=
  s.withMpeg { s.mpeg with sampleCounterLatched := s.mpeg.sampleCounter }

/-- The effect of a timer-high read: no latch under the Alternate variant (44_mpeg_transfer.md R194). -/
def State.latchTimerHigh (s : State) : State :=
  match s.cipher.variant with
  | .alternate => s
  | .default => s.latchTimer

/-- The effect of a diff read: both counters keep their low halves (44_mpeg_transfer.md R196). -/
def State.clearUpperHalves (s : State) : State :=
  s.withMpeg { s.mpeg with sampleCounter := s.mpeg.sampleCounter &&& 0x0000FFFF,
                           sampleCounterLatched := s.mpeg.sampleCounterLatched &&& 0x0000FFFF }

/-- The effect of a low-timer write: both counters cleared, and `timerEnabled` re-derived except under
the Alternate variant (44_mpeg_transfer.md R197). -/
def State.timerWrite (c : Config) (s : State) : State :=
  s.withMpeg { s.mpeg with
    sampleCounter := 0
    sampleCounterLatched := 0
    timerEnabled := match s.cipher.variant with
      | .alternate => s.mpeg.timerEnabled
      | .default => s.mpeg.isStreaming c }

/-- The frame-sync callback (44_mpeg_transfer.md R203). -/
def MpegChannel.frameSync (c : Config) (p : Bool) (m : MpegChannel) : MpegChannel :=
  if p && frameCountEn c m.ctrl then
    { m with playing := p,
             timerEnabled := m.timerEnabled || m.frameCounter == 0,
             frameCounter := m.frameCounter + 1 }
  else { m with playing := p }

/-- The frame-identification callback (44_mpeg_transfer.md R205). -/
def MpegChannel.frameIdent (c : Config) (a : Bool) (m : MpegChannel) : MpegChannel :=
  if a && m.timerEnabled && mpegEn c m.ctrl then { m with sampleCounter := m.sampleCounter + 1 } else m

/-- `wr MPEG_START_HI` (44_mpeg_transfer.md R180). -/
def execWrMpegStartHi (data : Word) (s : State) : Result :=
  writeGated s fun s => s.withMpeg { s.mpeg with currentAddr := withHighHalf data s.mpeg.currentAddr }

/-- `rd MPEG_START_HI`, undescribed (40_bus.md R83). -/
def execRdMpegStartHi (s : State) : Result := readUndocumented .mpegStartHi .rd s

/-- `ird MPEG_START_HI`, undescribed (40_bus.md R83). -/
def execIrdMpegStartHi (s : State) : Result := readUndocumented .mpegStartHi .ird s

/-- `wr MPEG_START_LO` (44_mpeg_transfer.md R181). -/
def execWrMpegStartLo (data : Word) (s : State) : Result :=
  writeGated s fun s => s.withMpeg { s.mpeg with currentAddr := withLowHalf data s.mpeg.currentAddr }

/-- `rd MPEG_START_LO`, undescribed (40_bus.md R83). -/
def execRdMpegStartLo (s : State) : Result := readUndocumented .mpegStartLo .rd s

/-- `ird MPEG_START_LO`, undescribed (40_bus.md R83). -/
def execIrdMpegStartLo (s : State) : Result := readUndocumented .mpegStartLo .ird s

/-- `wr MPEG_END_HI` (44_mpeg_transfer.md R182). -/
def execWrMpegEndHi (data : Word) (s : State) : Result :=
  writeGated s fun s => s.withMpeg { s.mpeg with endAddr := withHighHalf data s.mpeg.endAddr }

/-- `rd MPEG_END_HI`, undescribed (40_bus.md R83). -/
def execRdMpegEndHi (s : State) : Result := readUndocumented .mpegEndHi .rd s

/-- `ird MPEG_END_HI`, undescribed (40_bus.md R83). -/
def execIrdMpegEndHi (s : State) : Result := readUndocumented .mpegEndHi .ird s

/-- `wr MPEG_END_LO` (44_mpeg_transfer.md R183). -/
def execWrMpegEndLo (data : Word) (s : State) : Result :=
  writeGated s fun s => s.withMpeg { s.mpeg with endAddr := withLowHalf data s.mpeg.endAddr }

/-- `rd MPEG_END_LO`, undescribed (40_bus.md R83). -/
def execRdMpegEndLo (s : State) : Result := readUndocumented .mpegEndLo .rd s

/-- `ird MPEG_END_LO`, undescribed (40_bus.md R83). -/
def execIrdMpegEndLo (s : State) : Result := readUndocumented .mpegEndLo .ird s

/-- `wr MPEG_STATUS`: no effect, and not refused (44_mpeg_transfer.md R193). -/
def execWrMpegStatus (_data : Word) (s : State) : Result := writeGated s id

/-- `rd MPEG_STATUS` (44_mpeg_transfer.md R192). -/
def execRdMpegStatus (s : State) (c : Config := Config.board) : Result :=
  peekGated s fun s => s.mpeg.statusRead c

/-- `ird MPEG_STATUS` (44_mpeg_transfer.md R192). -/
def execIrdMpegStatus (s : State) (c : Config := Config.board) : Result :=
  peekGated s fun s => s.mpeg.statusRead c

/-- `wr MPEG_CTRL` (44_mpeg_transfer.md R190). -/
def execWrMpegCtrl (data : Word) (s : State) (c : Config := Config.board) : Result :=
  writeGated s (State.ctrlWrite c data)

/-- `rd MPEG_CTRL` (44_mpeg_transfer.md R191). -/
def execRdMpegCtrl (s : State) (c : Config := Config.board) : Result :=
  peekGated s fun s => s.mpeg.ctrlRead c

/-- `ird MPEG_CTRL` (44_mpeg_transfer.md R191). -/
def execIrdMpegCtrl (s : State) (c : Config := Config.board) : Result :=
  peekGated s fun s => s.mpeg.ctrlRead c

/-- `wr TIMER_HI`, undescribed (40_bus.md R83). -/
def execWrTimerHi (_data : Word) (s : State) : Result := writeUndocumented .timerHi s

/-- `rd TIMER_HI` (44_mpeg_transfer.md R194). -/
def execRdTimerHi (s : State) (c : Config := Config.board) : Result :=
  readGated s (State.timerHigh c) State.latchTimerHigh

/-- `ird TIMER_HI` (44_mpeg_transfer.md R198). -/
def execIrdTimerHi (s : State) (c : Config := Config.board) : Result := peekGated s (State.timerHigh c)

/-- `wr TIMER_LO`: the value written is not used (44_mpeg_transfer.md R197). -/
def execWrTimerLo (_data : Word) (s : State) (c : Config := Config.board) : Result :=
  writeGated s (State.timerWrite c)

/-- `rd TIMER_LO` (44_mpeg_transfer.md R195). -/
def execRdTimerLo (s : State) : Result := readGated s (fun s => s.mpeg.timerLow) State.latchTimer

/-- `ird TIMER_LO` (44_mpeg_transfer.md R198). -/
def execIrdTimerLo (s : State) : Result := peekGated s fun s => s.mpeg.timerLow

/-- `wr TIMER_DIFF`, undescribed (40_bus.md R83). -/
def execWrTimerDiff (_data : Word) (s : State) : Result := writeUndocumented .timerDiff s

/-- `rd TIMER_DIFF` (44_mpeg_transfer.md R196). -/
def execRdTimerDiff (s : State) : Result :=
  readGated s (fun s => s.mpeg.timerDiff) State.clearUpperHalves

/-- `ird TIMER_DIFF` (44_mpeg_transfer.md R198). -/
def execIrdTimerDiff (s : State) : Result := peekGated s fun s => s.mpeg.timerDiff

/-- `ev EV_FRAMESYNC` (44_mpeg_transfer.md R203). -/
def execEvFrameSync (b : Bool) (s : State) (c : Config := Config.board) : Result :=
  writeUngated s fun s => s.withMpeg (s.mpeg.frameSync c b)

/-- `ev EV_DEMAND` (44_mpeg_transfer.md R204). -/
def execEvDemand (b : Bool) (s : State) : Result :=
  writeUngated s fun s => s.withMpeg { s.mpeg with demand := b }

/-- `ev EV_CRCERROR` (44_mpeg_transfer.md R206). -/
def execEvCrcError (b : Bool) (s : State) : Result :=
  writeUngated s fun s => s.withMpeg { s.mpeg with crcError := b }

/-- `ev EV_FRAMEID` (44_mpeg_transfer.md R205). -/
def execEvFrameId (b : Bool) (s : State) (c : Config := Config.board) : Result :=
  writeUngated s fun s => s.withMpeg (s.mpeg.frameIdent c b)

/-- `ev EV_TICK` (44_mpeg_transfer.md R200). -/
def execEvTick (s : State) (c : Config := Config.board) : Result := writeUngated s (State.tick c)

end Sys2Proof.Machine
end

