-- ==== Sys2Proof/Machine/Window.lean ====
section
/-! DEFINITION. The address window store: RAM_WADDR, RAM_RADDR, RAM_DATA and RAM_CTRL
(42_window_store.md). Every register is gated. -/

namespace Sys2Proof.Machine

/-- The write cursor set; the latch is not touched (42_window_store.md R130, R131). -/
def State.setWriteAddr (a : Addr) (s : State) : State :=
  { s with store := { s.store with writeAddr := a } }

/-- The read cursor set, and the stale-value latch refreshed at once (42_window_store.md R132, R133). -/
def State.setReadAddr (c : Config) (a : Addr) (s : State) : State :=
  { s with store := { s.store with readAddr := a }.refreshLVR c }

/-- The value a data read or an inspection read returns: the latch while the store is disabled or the
cursor is out of range, else the word (42_window_store.md R134, R135). -/
def AddressWindow.peek (c : Config) (w : AddressWindow) : Word :=
  if c.storeEn then (memRead c w.words w.readAddr).getD w.lastValidRead else w.lastValidRead

/-- The effect of a data read: none while disabled, else the latch takes the value, the cursor moves and
the latch is refreshed from the new cursor (42_window_store.md R134). -/
def AddressWindow.afterRead (c : Config) (w : AddressWindow) : AddressWindow :=
  if c.storeEn then
    { w with lastValidRead := w.peek c, readAddr := nextAddr w.readAddr }.refreshLVR c
  else w

/-- The effect of a data write: none while disabled, else the word is written if in range and the cursor
moves (42_window_store.md R136). -/
def AddressWindow.dataWrite (c : Config) (data : Word) (w : AddressWindow) : AddressWindow :=
  if c.storeEn then
    { w with words := memWrite c w.words w.writeAddr data, writeAddr := nextAddr w.writeAddr }
  else w

/-- `wr RAM_WADDR_HI` (42_window_store.md R130). -/
def execWrRamWaddrHi (data : Word) (s : State) : Result :=
  writeGated s fun s => s.setWriteAddr (withHighHalf data s.store.writeAddr)

/-- `rd RAM_WADDR_HI`, undescribed (40_bus.md R83). -/
def execRdRamWaddrHi (s : State) : Result := readUndocumented .ramWaddrHi .rd s

/-- `ird RAM_WADDR_HI`, undescribed (40_bus.md R83). -/
def execIrdRamWaddrHi (s : State) : Result := readUndocumented .ramWaddrHi .ird s

/-- `wr RAM_WADDR_LO` (42_window_store.md R131). -/
def execWrRamWaddrLo (data : Word) (s : State) : Result :=
  writeGated s fun s => s.setWriteAddr (withLowHalf data s.store.writeAddr)

/-- `rd RAM_WADDR_LO`, undescribed (40_bus.md R83). -/
def execRdRamWaddrLo (s : State) : Result := readUndocumented .ramWaddrLo .rd s

/-- `ird RAM_WADDR_LO`, undescribed (40_bus.md R83). -/
def execIrdRamWaddrLo (s : State) : Result := readUndocumented .ramWaddrLo .ird s

/-- `wr RAM_RADDR_HI` (42_window_store.md R132). -/
def execWrRamRaddrHi (data : Word) (s : State) (c : Config := Config.board) : Result :=
  writeGated s fun s => s.setReadAddr c (withHighHalf data s.store.readAddr)

/-- `rd RAM_RADDR_HI`, undescribed (40_bus.md R83). -/
def execRdRamRaddrHi (s : State) : Result := readUndocumented .ramRaddrHi .rd s

/-- `ird RAM_RADDR_HI`, undescribed (40_bus.md R83). -/
def execIrdRamRaddrHi (s : State) : Result := readUndocumented .ramRaddrHi .ird s

/-- `wr RAM_RADDR_LO` (42_window_store.md R133). -/
def execWrRamRaddrLo (data : Word) (s : State) (c : Config := Config.board) : Result :=
  writeGated s fun s => s.setReadAddr c (withLowHalf data s.store.readAddr)

/-- `rd RAM_RADDR_LO`, undescribed (40_bus.md R83). -/
def execRdRamRaddrLo (s : State) : Result := readUndocumented .ramRaddrLo .rd s

/-- `ird RAM_RADDR_LO`, undescribed (40_bus.md R83). -/
def execIrdRamRaddrLo (s : State) : Result := readUndocumented .ramRaddrLo .ird s

/-- `wr RAM_DATA` (42_window_store.md R136). -/
def execWrRamData (data : Word) (s : State) (c : Config := Config.board) : Result :=
  writeGated s fun s => { s with store := s.store.dataWrite c data }

/-- `rd RAM_DATA` (42_window_store.md R134). -/
def execRdRamData (s : State) (c : Config := Config.board) : Result :=
  readGated s (fun s => s.store.peek c) fun s => { s with store := s.store.afterRead c }

/-- `ird RAM_DATA` (42_window_store.md R135). -/
def execIrdRamData (s : State) (c : Config := Config.board) : Result :=
  peekGated s fun s => s.store.peek c

/-- `wr RAM_CTRL`, undescribed (40_bus.md R83). -/
def execWrRamCtrl (_data : Word) (s : State) : Result := writeUndocumented .ramCtrl s

/-- `rd RAM_CTRL`, undescribed (40_bus.md R83). -/
def execRdRamCtrl (s : State) : Result := readUndocumented .ramCtrl .rd s

/-- `ird RAM_CTRL`, undescribed (40_bus.md R83). -/
def execIrdRamCtrl (s : State) : Result := readUndocumented .ramCtrl .ird s

end Sys2Proof.Machine
end

