-- ==== Sys2Proof/Machine/Dispatch.lean ====
section
/-! DEFINITION. The dispatch: one arm for each operation of the opcode table, each a direct call of its
meaning (40_bus.md R80, 30_encoding.md R63, R64). -/

namespace Sys2Proof.Machine

def exec (i : Instr) (s : State) : Host.Outcome State Fault Refusal :=
  match i with
  | .wrFwStatus data => Sys2Proof.Machine.execWrFwStatus data s
  | .rdFwStatus => Sys2Proof.Machine.execRdFwStatus s
  | .irdFwStatus => Sys2Proof.Machine.execIrdFwStatus s
  | .wrFwData data => Sys2Proof.Machine.execWrFwData data s
  | .rdFwData => Sys2Proof.Machine.execRdFwData s
  | .irdFwData => Sys2Proof.Machine.execIrdFwData s
  | .wrRamWaddrHi data => Sys2Proof.Machine.execWrRamWaddrHi data s
  | .rdRamWaddrHi => Sys2Proof.Machine.execRdRamWaddrHi s
  | .irdRamWaddrHi => Sys2Proof.Machine.execIrdRamWaddrHi s
  | .wrRamWaddrLo data => Sys2Proof.Machine.execWrRamWaddrLo data s
  | .rdRamWaddrLo => Sys2Proof.Machine.execRdRamWaddrLo s
  | .irdRamWaddrLo => Sys2Proof.Machine.execIrdRamWaddrLo s
  | .wrRamRaddrHi data => Sys2Proof.Machine.execWrRamRaddrHi data s
  | .rdRamRaddrHi => Sys2Proof.Machine.execRdRamRaddrHi s
  | .irdRamRaddrHi => Sys2Proof.Machine.execIrdRamRaddrHi s
  | .wrRamRaddrLo data => Sys2Proof.Machine.execWrRamRaddrLo data s
  | .rdRamRaddrLo => Sys2Proof.Machine.execRdRamRaddrLo s
  | .irdRamRaddrLo => Sys2Proof.Machine.execIrdRamRaddrLo s
  | .wrRamData data => Sys2Proof.Machine.execWrRamData data s
  | .rdRamData => Sys2Proof.Machine.execRdRamData s
  | .irdRamData => Sys2Proof.Machine.execIrdRamData s
  | .wrRamCtrl data => Sys2Proof.Machine.execWrRamCtrl data s
  | .rdRamCtrl => Sys2Proof.Machine.execRdRamCtrl s
  | .irdRamCtrl => Sys2Proof.Machine.execIrdRamCtrl s
  | .wrMpegStartHi data => Sys2Proof.Machine.execWrMpegStartHi data s
  | .rdMpegStartHi => Sys2Proof.Machine.execRdMpegStartHi s
  | .irdMpegStartHi => Sys2Proof.Machine.execIrdMpegStartHi s
  | .wrMpegStartLo data => Sys2Proof.Machine.execWrMpegStartLo data s
  | .rdMpegStartLo => Sys2Proof.Machine.execRdMpegStartLo s
  | .irdMpegStartLo => Sys2Proof.Machine.execIrdMpegStartLo s
  | .wrMpegEndHi data => Sys2Proof.Machine.execWrMpegEndHi data s
  | .rdMpegEndHi => Sys2Proof.Machine.execRdMpegEndHi s
  | .irdMpegEndHi => Sys2Proof.Machine.execIrdMpegEndHi s
  | .wrMpegEndLo data => Sys2Proof.Machine.execWrMpegEndLo data s
  | .rdMpegEndLo => Sys2Proof.Machine.execRdMpegEndLo s
  | .irdMpegEndLo => Sys2Proof.Machine.execIrdMpegEndLo s
  | .wrMpegKey1 data => Sys2Proof.Machine.execWrMpegKey1 data s
  | .rdMpegKey1 => Sys2Proof.Machine.execRdMpegKey1 s
  | .irdMpegKey1 => Sys2Proof.Machine.execIrdMpegKey1 s
  | .wrMpegKey2 data => Sys2Proof.Machine.execWrMpegKey2 data s
  | .rdMpegKey2 => Sys2Proof.Machine.execRdMpegKey2 s
  | .irdMpegKey2 => Sys2Proof.Machine.execIrdMpegKey2 s
  | .wrMpegKey3 data => Sys2Proof.Machine.execWrMpegKey3 data s
  | .rdMpegKey3 => Sys2Proof.Machine.execRdMpegKey3 s
  | .irdMpegKey3 => Sys2Proof.Machine.execIrdMpegKey3 s
  | .wrMpegStatus data => Sys2Proof.Machine.execWrMpegStatus data s
  | .rdMpegStatus => Sys2Proof.Machine.execRdMpegStatus s
  | .irdMpegStatus => Sys2Proof.Machine.execIrdMpegStatus s
  | .wrMpegCtrl data => Sys2Proof.Machine.execWrMpegCtrl data s
  | .rdMpegCtrl => Sys2Proof.Machine.execRdMpegCtrl s
  | .irdMpegCtrl => Sys2Proof.Machine.execIrdMpegCtrl s
  | .wrTimerHi data => Sys2Proof.Machine.execWrTimerHi data s
  | .rdTimerHi => Sys2Proof.Machine.execRdTimerHi s
  | .irdTimerHi => Sys2Proof.Machine.execIrdTimerHi s
  | .wrTimerLo data => Sys2Proof.Machine.execWrTimerLo data s
  | .rdTimerLo => Sys2Proof.Machine.execRdTimerLo s
  | .irdTimerLo => Sys2Proof.Machine.execIrdTimerLo s
  | .wrTimerDiff data => Sys2Proof.Machine.execWrTimerDiff data s
  | .rdTimerDiff => Sys2Proof.Machine.execRdTimerDiff s
  | .irdTimerDiff => Sys2Proof.Machine.execIrdTimerDiff s
  | .wrIdent data => Sys2Proof.Machine.execWrIdent data s
  | .rdIdent => Sys2Proof.Machine.execRdIdent s
  | .irdIdent => Sys2Proof.Machine.execIrdIdent s
  | .wrIdBank data => Sys2Proof.Machine.execWrIdBank data s
  | .rdIdBank => Sys2Proof.Machine.execRdIdBank s
  | .irdIdBank => Sys2Proof.Machine.execIrdIdBank s
  | .wrNetData data => Sys2Proof.Machine.execWrNetData data s
  | .rdNetData => Sys2Proof.Machine.execRdNetData s
  | .irdNetData => Sys2Proof.Machine.execIrdNetData s
  | .wrNetOutSize data => Sys2Proof.Machine.execWrNetOutSize data s
  | .rdNetOutSize => Sys2Proof.Machine.execRdNetOutSize s
  | .irdNetOutSize => Sys2Proof.Machine.execIrdNetOutSize s
  | .wrNetInSize data => Sys2Proof.Machine.execWrNetInSize data s
  | .rdNetInSize => Sys2Proof.Machine.execRdNetInSize s
  | .irdNetInSize => Sys2Proof.Machine.execIrdNetInSize s
  | .wrNetReset data => Sys2Proof.Machine.execWrNetReset data s
  | .rdNetReset => Sys2Proof.Machine.execRdNetReset s
  | .irdNetReset => Sys2Proof.Machine.execIrdNetReset s
  | .wrNetId data => Sys2Proof.Machine.execWrNetId data s
  | .rdNetId => Sys2Proof.Machine.execRdNetId s
  | .irdNetId => Sys2Proof.Machine.execIrdNetId s
  | .wrOut0 data => Sys2Proof.Machine.execWrOut0 data s
  | .rdOut0 => Sys2Proof.Machine.execRdOut0 s
  | .irdOut0 => Sys2Proof.Machine.execIrdOut0 s
  | .wrOut1 data => Sys2Proof.Machine.execWrOut1 data s
  | .rdOut1 => Sys2Proof.Machine.execRdOut1 s
  | .irdOut1 => Sys2Proof.Machine.execIrdOut1 s
  | .wrOut2 data => Sys2Proof.Machine.execWrOut2 data s
  | .rdOut2 => Sys2Proof.Machine.execRdOut2 s
  | .irdOut2 => Sys2Proof.Machine.execIrdOut2 s
  | .wrOut3 data => Sys2Proof.Machine.execWrOut3 data s
  | .rdOut3 => Sys2Proof.Machine.execRdOut3 s
  | .irdOut3 => Sys2Proof.Machine.execIrdOut3 s
  | .wrUnmapped data => Sys2Proof.Machine.execWrUnmapped data s
  | .rdUnmapped => Sys2Proof.Machine.execRdUnmapped s
  | .irdUnmapped => Sys2Proof.Machine.execIrdUnmapped s
  | .evReset => Sys2Proof.Machine.execEvReset s
  | .evFrameSync b => Sys2Proof.Machine.execEvFrameSync b s
  | .evDemand b => Sys2Proof.Machine.execEvDemand b s
  | .evCrcError b => Sys2Proof.Machine.execEvCrcError b s
  | .evFrameId b => Sys2Proof.Machine.execEvFrameId b s
  | .evTick => Sys2Proof.Machine.execEvTick s
  | .evPump => Sys2Proof.Machine.execEvPump s

end Sys2Proof.Machine
end

