-- ==== Sys2Proof/WellFormed.lean ====
section
/-! DEFINITION. What is well formed: instructions, transaction words (30_encoding.md R65, R66) and host
bus accesses (20_memory.md R47). -/

namespace Sys2Proof

/-- Why a transaction word spells no operation: a reserved selector (30_encoding.md R65) or a reserved
event id (R66). -/
inductive Reserved where
  | selector
  | event
deriving DecidableEq, Repr

/-- Every instruction is well formed: a `Word` is 16 bits, a `Bool` is one, and no operation puts a
further condition on its operand (30_encoding.md R62). -/
def Instr.wellFormed (_ : Instr) : Bool := true

/-- The word spells an operation: an event id up to 0x06, or a selector outside 0x1F to 0x3E
(30_encoding.md R65, R66). Bits 23:22 are the kind and bits 21:16 the selector or event id. -/
def wordWellFormed (t : Txn) : Bool :=
  let sel := (t.extractLsb' 16 6).toNat
  if t.extractLsb' 22 2 = (0b10 : BitVec 2) then decide (sel ≤ 0x06)
  else decide (sel < 0x1F) || decide (sel = 0x3F)

/-- The access is 16 bits wide (20_memory.md R47). -/
def HostAccess.widthOk (a : HostAccess) : Bool := a.width == 16

/-- The access is at an even register address (20_memory.md R47). -/
def HostAccess.aligned (a : HostAccess) : Bool := !a.addr.getLsbD 0

/-- A host access that has a transaction: 16 bits wide at an even address (20_memory.md R47). -/
def HostAccess.wellFormed (a : HostAccess) : Bool := a.widthOk && a.aligned

end Sys2Proof
end

