-- ==== Sys2Proof/Decode.lean ====
section
/-! DEFINITION. Decoding and encoding of the transaction word (30_encoding.md R60 to R67). The decoder is
total: every 24-bit word is one operation, or is rejected as a reserved selector or a reserved event. -/

namespace Sys2Proof

/-- The kind field of a bus transaction, bits 23:22 (30_encoding.md R60). -/
def kindField : Access → BitVec 2
  | .wr => 0b00
  | .rd => 0b01
  | .ird => 0b11

/-- The kind field of an event (30_encoding.md R60). -/
def eventField : BitVec 2 := 0b10

/-- The number of a selector (30_encoding.md R63). -/
def selectorNumber : Selector → BitVec 6
  | .fwStatus => 0x00
  | .fwData => 0x01
  | .ramWaddrHi => 0x02
  | .ramWaddrLo => 0x03
  | .ramRaddrHi => 0x04
  | .ramRaddrLo => 0x05
  | .ramData => 0x06
  | .ramCtrl => 0x07
  | .mpegStartHi => 0x08
  | .mpegStartLo => 0x09
  | .mpegEndHi => 0x0A
  | .mpegEndLo => 0x0B
  | .mpegKey1 => 0x0C
  | .mpegKey2 => 0x0D
  | .mpegKey3 => 0x0E
  | .mpegStatus => 0x0F
  | .mpegCtrl => 0x10
  | .timerHi => 0x11
  | .timerLo => 0x12
  | .timerDiff => 0x13
  | .ident => 0x14
  | .idBank => 0x15
  | .netData => 0x16
  | .netOutSize => 0x17
  | .netInSize => 0x18
  | .netReset => 0x19
  | .netId => 0x1A
  | .out0 => 0x1B
  | .out1 => 0x1C
  | .out2 => 0x1D
  | .out3 => 0x1E
  | .unmapped => 0x3F

/-- The selectors in the order of 30_encoding.md R63. -/
def allSelectors : List Selector :=
  [ .fwStatus, .fwData, .ramWaddrHi, .ramWaddrLo, .ramRaddrHi, .ramRaddrLo,
    .ramData, .ramCtrl, .mpegStartHi, .mpegStartLo, .mpegEndHi, .mpegEndLo,
    .mpegKey1, .mpegKey2, .mpegKey3, .mpegStatus, .mpegCtrl, .timerHi,
    .timerLo, .timerDiff, .ident, .idBank, .netData, .netOutSize,
    .netInSize, .netReset, .netId, .out0, .out1, .out2,
    .out3, .unmapped ]

/-- The selector a `sel` field names; none in the reserved range 0x1F to 0x3E (30_encoding.md R63, R65). -/
def selectorOf (n : BitVec 6) : Option Selector :=
  allSelectors.find? fun sel => selectorNumber sel == n

/-- The operation of an access kind on a selector, with the `data` field of a write (30_encoding.md R63). -/
def accessInstr : Access → Selector → Word → Instr
  | .wr, .fwStatus, data => .wrFwStatus data
  | .wr, .fwData, data => .wrFwData data
  | .wr, .ramWaddrHi, data => .wrRamWaddrHi data
  | .wr, .ramWaddrLo, data => .wrRamWaddrLo data
  | .wr, .ramRaddrHi, data => .wrRamRaddrHi data
  | .wr, .ramRaddrLo, data => .wrRamRaddrLo data
  | .wr, .ramData, data => .wrRamData data
  | .wr, .ramCtrl, data => .wrRamCtrl data
  | .wr, .mpegStartHi, data => .wrMpegStartHi data
  | .wr, .mpegStartLo, data => .wrMpegStartLo data
  | .wr, .mpegEndHi, data => .wrMpegEndHi data
  | .wr, .mpegEndLo, data => .wrMpegEndLo data
  | .wr, .mpegKey1, data => .wrMpegKey1 data
  | .wr, .mpegKey2, data => .wrMpegKey2 data
  | .wr, .mpegKey3, data => .wrMpegKey3 data
  | .wr, .mpegStatus, data => .wrMpegStatus data
  | .wr, .mpegCtrl, data => .wrMpegCtrl data
  | .wr, .timerHi, data => .wrTimerHi data
  | .wr, .timerLo, data => .wrTimerLo data
  | .wr, .timerDiff, data => .wrTimerDiff data
  | .wr, .ident, data => .wrIdent data
  | .wr, .idBank, data => .wrIdBank data
  | .wr, .netData, data => .wrNetData data
  | .wr, .netOutSize, data => .wrNetOutSize data
  | .wr, .netInSize, data => .wrNetInSize data
  | .wr, .netReset, data => .wrNetReset data
  | .wr, .netId, data => .wrNetId data
  | .wr, .out0, data => .wrOut0 data
  | .wr, .out1, data => .wrOut1 data
  | .wr, .out2, data => .wrOut2 data
  | .wr, .out3, data => .wrOut3 data
  | .wr, .unmapped, data => .wrUnmapped data
  | .rd, .fwStatus, _ => .rdFwStatus
  | .rd, .fwData, _ => .rdFwData
  | .rd, .ramWaddrHi, _ => .rdRamWaddrHi
  | .rd, .ramWaddrLo, _ => .rdRamWaddrLo
  | .rd, .ramRaddrHi, _ => .rdRamRaddrHi
  | .rd, .ramRaddrLo, _ => .rdRamRaddrLo
  | .rd, .ramData, _ => .rdRamData
  | .rd, .ramCtrl, _ => .rdRamCtrl
  | .rd, .mpegStartHi, _ => .rdMpegStartHi
  | .rd, .mpegStartLo, _ => .rdMpegStartLo
  | .rd, .mpegEndHi, _ => .rdMpegEndHi
  | .rd, .mpegEndLo, _ => .rdMpegEndLo
  | .rd, .mpegKey1, _ => .rdMpegKey1
  | .rd, .mpegKey2, _ => .rdMpegKey2
  | .rd, .mpegKey3, _ => .rdMpegKey3
  | .rd, .mpegStatus, _ => .rdMpegStatus
  | .rd, .mpegCtrl, _ => .rdMpegCtrl
  | .rd, .timerHi, _ => .rdTimerHi
  | .rd, .timerLo, _ => .rdTimerLo
  | .rd, .timerDiff, _ => .rdTimerDiff
  | .rd, .ident, _ => .rdIdent
  | .rd, .idBank, _ => .rdIdBank
  | .rd, .netData, _ => .rdNetData
  | .rd, .netOutSize, _ => .rdNetOutSize
  | .rd, .netInSize, _ => .rdNetInSize
  | .rd, .netReset, _ => .rdNetReset
  | .rd, .netId, _ => .rdNetId
  | .rd, .out0, _ => .rdOut0
  | .rd, .out1, _ => .rdOut1
  | .rd, .out2, _ => .rdOut2
  | .rd, .out3, _ => .rdOut3
  | .rd, .unmapped, _ => .rdUnmapped
  | .ird, .fwStatus, _ => .irdFwStatus
  | .ird, .fwData, _ => .irdFwData
  | .ird, .ramWaddrHi, _ => .irdRamWaddrHi
  | .ird, .ramWaddrLo, _ => .irdRamWaddrLo
  | .ird, .ramRaddrHi, _ => .irdRamRaddrHi
  | .ird, .ramRaddrLo, _ => .irdRamRaddrLo
  | .ird, .ramData, _ => .irdRamData
  | .ird, .ramCtrl, _ => .irdRamCtrl
  | .ird, .mpegStartHi, _ => .irdMpegStartHi
  | .ird, .mpegStartLo, _ => .irdMpegStartLo
  | .ird, .mpegEndHi, _ => .irdMpegEndHi
  | .ird, .mpegEndLo, _ => .irdMpegEndLo
  | .ird, .mpegKey1, _ => .irdMpegKey1
  | .ird, .mpegKey2, _ => .irdMpegKey2
  | .ird, .mpegKey3, _ => .irdMpegKey3
  | .ird, .mpegStatus, _ => .irdMpegStatus
  | .ird, .mpegCtrl, _ => .irdMpegCtrl
  | .ird, .timerHi, _ => .irdTimerHi
  | .ird, .timerLo, _ => .irdTimerLo
  | .ird, .timerDiff, _ => .irdTimerDiff
  | .ird, .ident, _ => .irdIdent
  | .ird, .idBank, _ => .irdIdBank
  | .ird, .netData, _ => .irdNetData
  | .ird, .netOutSize, _ => .irdNetOutSize
  | .ird, .netInSize, _ => .irdNetInSize
  | .ird, .netReset, _ => .irdNetReset
  | .ird, .netId, _ => .irdNetId
  | .ird, .out0, _ => .irdOut0
  | .ird, .out1, _ => .irdOut1
  | .ird, .out2, _ => .irdOut2
  | .ird, .out3, _ => .irdOut3
  | .ird, .unmapped, _ => .irdUnmapped

/-- The event of an id, with bit 0 of the `data` field (30_encoding.md R64, R67); none is a reserved id (R66). -/
def eventInstr (id : BitVec 6) (b : Bool) : Option Instr :=
  if id = 0x00 then some .evReset
  else if id = 0x01 then some (.evFrameSync b)
  else if id = 0x02 then some (.evDemand b)
  else if id = 0x03 then some (.evCrcError b)
  else if id = 0x04 then some (.evFrameId b)
  else if id = 0x05 then some .evTick
  else if id = 0x06 then some .evPump
  else none

/-- The fields of a transaction word (30_encoding.md R60). -/
def kindOf (t : Txn) : BitVec 2 := t.extractLsb' 22 2
/-- Bits 21:16 of a transaction word. -/
def selOf (t : Txn) : BitVec 6 := t.extractLsb' 16 6
/-- Bits 15:0 of a transaction word. -/
def dataOf (t : Txn) : Word := t.extractLsb' 0 16

/-- Reads a bus transaction of one kind: the selector's operation, or the reserved selector (R65). -/
def decodeAccess (kind : Access) (t : Txn) : Except Reserved Instr :=
  match selectorOf (selOf t) with
  | some sel => .ok (accessInstr kind sel (dataOf t))
  | none => .error .selector

/-- The decoder (30_encoding.md R60, R63 to R67). -/
def decode (t : Txn) : Except Reserved Instr :=
  if kindOf t = eventField then
    match eventInstr (selOf t) ((dataOf t).getLsbD 0) with
    | some i => .ok i
    | none => .error .event
  else if kindOf t = kindField .wr then decodeAccess .wr t
  else if kindOf t = kindField .rd then decodeAccess .rd t
  else decodeAccess .ird t

/-- A transaction word from its three fields (30_encoding.md R60). -/
def packTxn (kind : BitVec 2) (sel : BitVec 6) (data : Word) : Txn := kind ++ sel ++ data

/-- The word of a bus transaction. -/
def packAccess (kind : Access) (sel : Selector) (data : Word) : Txn :=
  packTxn (kindField kind) (selectorNumber sel) data

/-- The word of an event, its argument in bit 0 and zeros in the ignored bits. -/
def packEvent (id : BitVec 6) (b : Bool) : Txn :=
  packTxn eventField id ((BitVec.ofBool b).setWidth 16)

/-- The encoder (30_encoding.md R60, R63, R64). The ignored bits of R67 are written as zeros (log 13). -/
def encode : Instr → Txn
  | .wrFwStatus data => packAccess .wr .fwStatus data
  | .rdFwStatus => packAccess .rd .fwStatus 0
  | .irdFwStatus => packAccess .ird .fwStatus 0
  | .wrFwData data => packAccess .wr .fwData data
  | .rdFwData => packAccess .rd .fwData 0
  | .irdFwData => packAccess .ird .fwData 0
  | .wrRamWaddrHi data => packAccess .wr .ramWaddrHi data
  | .rdRamWaddrHi => packAccess .rd .ramWaddrHi 0
  | .irdRamWaddrHi => packAccess .ird .ramWaddrHi 0
  | .wrRamWaddrLo data => packAccess .wr .ramWaddrLo data
  | .rdRamWaddrLo => packAccess .rd .ramWaddrLo 0
  | .irdRamWaddrLo => packAccess .ird .ramWaddrLo 0
  | .wrRamRaddrHi data => packAccess .wr .ramRaddrHi data
  | .rdRamRaddrHi => packAccess .rd .ramRaddrHi 0
  | .irdRamRaddrHi => packAccess .ird .ramRaddrHi 0
  | .wrRamRaddrLo data => packAccess .wr .ramRaddrLo data
  | .rdRamRaddrLo => packAccess .rd .ramRaddrLo 0
  | .irdRamRaddrLo => packAccess .ird .ramRaddrLo 0
  | .wrRamData data => packAccess .wr .ramData data
  | .rdRamData => packAccess .rd .ramData 0
  | .irdRamData => packAccess .ird .ramData 0
  | .wrRamCtrl data => packAccess .wr .ramCtrl data
  | .rdRamCtrl => packAccess .rd .ramCtrl 0
  | .irdRamCtrl => packAccess .ird .ramCtrl 0
  | .wrMpegStartHi data => packAccess .wr .mpegStartHi data
  | .rdMpegStartHi => packAccess .rd .mpegStartHi 0
  | .irdMpegStartHi => packAccess .ird .mpegStartHi 0
  | .wrMpegStartLo data => packAccess .wr .mpegStartLo data
  | .rdMpegStartLo => packAccess .rd .mpegStartLo 0
  | .irdMpegStartLo => packAccess .ird .mpegStartLo 0
  | .wrMpegEndHi data => packAccess .wr .mpegEndHi data
  | .rdMpegEndHi => packAccess .rd .mpegEndHi 0
  | .irdMpegEndHi => packAccess .ird .mpegEndHi 0
  | .wrMpegEndLo data => packAccess .wr .mpegEndLo data
  | .rdMpegEndLo => packAccess .rd .mpegEndLo 0
  | .irdMpegEndLo => packAccess .ird .mpegEndLo 0
  | .wrMpegKey1 data => packAccess .wr .mpegKey1 data
  | .rdMpegKey1 => packAccess .rd .mpegKey1 0
  | .irdMpegKey1 => packAccess .ird .mpegKey1 0
  | .wrMpegKey2 data => packAccess .wr .mpegKey2 data
  | .rdMpegKey2 => packAccess .rd .mpegKey2 0
  | .irdMpegKey2 => packAccess .ird .mpegKey2 0
  | .wrMpegKey3 data => packAccess .wr .mpegKey3 data
  | .rdMpegKey3 => packAccess .rd .mpegKey3 0
  | .irdMpegKey3 => packAccess .ird .mpegKey3 0
  | .wrMpegStatus data => packAccess .wr .mpegStatus data
  | .rdMpegStatus => packAccess .rd .mpegStatus 0
  | .irdMpegStatus => packAccess .ird .mpegStatus 0
  | .wrMpegCtrl data => packAccess .wr .mpegCtrl data
  | .rdMpegCtrl => packAccess .rd .mpegCtrl 0
  | .irdMpegCtrl => packAccess .ird .mpegCtrl 0
  | .wrTimerHi data => packAccess .wr .timerHi data
  | .rdTimerHi => packAccess .rd .timerHi 0
  | .irdTimerHi => packAccess .ird .timerHi 0
  | .wrTimerLo data => packAccess .wr .timerLo data
  | .rdTimerLo => packAccess .rd .timerLo 0
  | .irdTimerLo => packAccess .ird .timerLo 0
  | .wrTimerDiff data => packAccess .wr .timerDiff data
  | .rdTimerDiff => packAccess .rd .timerDiff 0
  | .irdTimerDiff => packAccess .ird .timerDiff 0
  | .wrIdent data => packAccess .wr .ident data
  | .rdIdent => packAccess .rd .ident 0
  | .irdIdent => packAccess .ird .ident 0
  | .wrIdBank data => packAccess .wr .idBank data
  | .rdIdBank => packAccess .rd .idBank 0
  | .irdIdBank => packAccess .ird .idBank 0
  | .wrNetData data => packAccess .wr .netData data
  | .rdNetData => packAccess .rd .netData 0
  | .irdNetData => packAccess .ird .netData 0
  | .wrNetOutSize data => packAccess .wr .netOutSize data
  | .rdNetOutSize => packAccess .rd .netOutSize 0
  | .irdNetOutSize => packAccess .ird .netOutSize 0
  | .wrNetInSize data => packAccess .wr .netInSize data
  | .rdNetInSize => packAccess .rd .netInSize 0
  | .irdNetInSize => packAccess .ird .netInSize 0
  | .wrNetReset data => packAccess .wr .netReset data
  | .rdNetReset => packAccess .rd .netReset 0
  | .irdNetReset => packAccess .ird .netReset 0
  | .wrNetId data => packAccess .wr .netId data
  | .rdNetId => packAccess .rd .netId 0
  | .irdNetId => packAccess .ird .netId 0
  | .wrOut0 data => packAccess .wr .out0 data
  | .rdOut0 => packAccess .rd .out0 0
  | .irdOut0 => packAccess .ird .out0 0
  | .wrOut1 data => packAccess .wr .out1 data
  | .rdOut1 => packAccess .rd .out1 0
  | .irdOut1 => packAccess .ird .out1 0
  | .wrOut2 data => packAccess .wr .out2 data
  | .rdOut2 => packAccess .rd .out2 0
  | .irdOut2 => packAccess .ird .out2 0
  | .wrOut3 data => packAccess .wr .out3 data
  | .rdOut3 => packAccess .rd .out3 0
  | .irdOut3 => packAccess .ird .out3 0
  | .wrUnmapped data => packAccess .wr .unmapped data
  | .rdUnmapped => packAccess .rd .unmapped 0
  | .irdUnmapped => packAccess .ird .unmapped 0
  | .evReset => packEvent 0x00 false
  | .evFrameSync b => packEvent 0x01 b
  | .evDemand b => packEvent 0x02 b
  | .evCrcError b => packEvent 0x03 b
  | .evFrameId b => packEvent 0x04 b
  | .evTick => packEvent 0x05 false
  | .evPump => packEvent 0x06 false

/-- The word that an instruction's bits `w`, of which the opcode table gives `nbits`, stand for: every bit
above `nbits` is zero. A transaction is one 24-bit word, so no byte order enters (log 12). -/
def tableWord (nbits w : Nat) : Txn := BitVec.ofNat 24 (w % 2 ^ nbits)

/-- What the decoder reads from an opcode-table word; none where it rejects. -/
def decodeTableWord (nbits w : Nat) : Option Instr :=
  match decode (tableWord nbits w) with
  | .ok i => some i
  | .error _ => none

end Sys2Proof
end

