-- ==== Sys2Proof/Machine/Fetch.lean ====
section
/-! DEFINITION. How the next operation is taken from the environment: the oldest arrival, the bus mapping
of a host access (30_encoding.md R61), and decoding (R67, 40_bus.md R80). -/

namespace Sys2Proof.Machine

/-- The register an even bus address decodes to, `ADDR_SEL` (20_memory.md R40). -/
def busSelector (c : Config) (addr : BitVec 8) : Selector := c.addrSel (addr.extractLsb' 1 7).toFin

/-- The transaction of a host access (30_encoding.md R61); refused unless it is 16 bits wide at an even
address (20_memory.md R47). A read carries no data. -/
def accessWord (c : Config) (a : HostAccess) : Except Reason Txn :=
  if a.wellFormed then
    .ok (packAccess a.kind (busSelector c a.addr) (if a.kind = .wr then a.data else 0))
  else .error .badWidthOrAlignment

/-- The transaction word of a request. -/
def requestWord (c : Config) : Request → Except Reason Txn
  | .word t => .ok t
  | .access a => accessWord c a

/-- The refusal of a word that spells no operation (30_encoding.md R65, R66). -/
def reservedReason : Reserved → Reason
  | .selector => .reservedSelector
  | .event => .reservedEvent

/-- The operation of a request, or why it is refused. -/
def requestInstr (c : Config) (r : Request) : Except Reason Instr :=
  match requestWord c r with
  | .error why => .error why
  | .ok t =>
    match decode t with
    | .ok i => .ok i
    | .error e => .error (reservedReason e)

/-- The state in which an arrival is performed: it is taken from the list, and its environment inputs are
in force (log 1, log 3). -/
def State.take (s : State) (e : Env) (rest : List Arrival) : State := { s with pending := rest, env := e }

/-- One arrival put before the others, with the inputs in force (log 1). -/
def State.deliver (s : State) (r : Request) : State :=
  { s with pending := { request := r, env := s.env } :: s.pending }

end Sys2Proof.Machine
end

