-- ==== Sys2Proof/Machine/Step.lean ====
section
/-! DEFINITION. One step of the block: the oldest operation the environment has delivered is performed
(40_bus.md R80, 60_exceptions.md R302, R304). -/

namespace Sys2Proof.Machine

/-- One step. A refused run takes none (40_bus.md R80, R84). With nothing delivered the block is idle and
its state stays (log 2). -/
def step (s : State) : Host.Outcome State Fault Refusal :=
  match s.refused with
  | some _ => .refused .runRefused
  | none =>
    match s.pending with
    | [] => .next s
    | a :: rest =>
      match requestInstr Config.board a.request with
      | .ok i => exec i (s.take a.env rest)
      | .error why => .next ((s.take a.env rest).refuse why)

/-- The state with an opcode-table word delivered as the next operation, under the environment's inputs in
force (log 1, log 12). -/
def State.withFetchWord (s : State) (nbits w : Nat) : State := s.deliver (.word (tableWord nbits w))

end Sys2Proof.Machine
end

