-- ==== Sys2Proof/Machine/Pseudo.lean ====
section
/-! DEFINITION. Sequences of operations: the pseudo-instructions (30_encoding.md R69), performing a list of
operations, and the textual form of an operation (R68). No step uses this file. -/

namespace Sys2Proof.Machine

/-- The high and low halves of a 32-bit value, high first (30_encoding.md R69). -/
def highHalf (v : Addr) : Word := v.extractLsb' 16 16
/-- Bits 15:0 of a 32-bit value. -/
def lowHalf (v : Addr) : Word := v.extractLsb' 0 16

/-- `wr32 RAM_WADDR` (30_encoding.md R69). -/
def wr32RamWaddr (v : Addr) : List Instr := [.wrRamWaddrHi (highHalf v), .wrRamWaddrLo (lowHalf v)]
/-- `wr32 RAM_RADDR` (30_encoding.md R69). -/
def wr32RamRaddr (v : Addr) : List Instr := [.wrRamRaddrHi (highHalf v), .wrRamRaddrLo (lowHalf v)]
/-- `wr32 MPEG_START` (30_encoding.md R69). -/
def wr32MpegStart (v : Addr) : List Instr := [.wrMpegStartHi (highHalf v), .wrMpegStartLo (lowHalf v)]
/-- `wr32 MPEG_END` (30_encoding.md R69). -/
def wr32MpegEnd (v : Addr) : List Instr := [.wrMpegEndHi (highHalf v), .wrMpegEndLo (lowHalf v)]

/-- `fwbit` (30_encoding.md R69). -/
def fwbit (b : Bool) : Instr := .wrFwData ((BitVec.ofBool b).setWidth 16 <<< 15)

/-- `fwbyte`, most significant bit first (30_encoding.md R69). -/
def fwbyte (x : Byte) : List Instr := [7, 6, 5, 4, 3, 2, 1, 0].map fun k => fwbit (x.getLsbD k)

/-- `fwload` (30_encoding.md R69). -/
def fwload (img : List Byte) : List Instr := img.flatMap fwbyte

/-- `netsend` (30_encoding.md R69). -/
def netsend (bytes : List Byte) : List Instr := bytes.map fun b => .wrNetData (b.setWidth 16)

/-- Operations performed one after another, each before the next begins (20_memory.md R50), stopping where
no step is taken. -/
def execAll : List Instr → State → Result
  | [], s => .next s
  | i :: is, s =>
    match exec i s with
    | .next s' => execAll is s'
    | .fault r => .fault r
    | .refused r => .refused r

/-- The name of a selector (30_encoding.md R63). -/
def selectorName : Selector → String
  | .fwStatus => "FW_STATUS"
  | .fwData => "FW_DATA"
  | .ramWaddrHi => "RAM_WADDR_HI"
  | .ramWaddrLo => "RAM_WADDR_LO"
  | .ramRaddrHi => "RAM_RADDR_HI"
  | .ramRaddrLo => "RAM_RADDR_LO"
  | .ramData => "RAM_DATA"
  | .ramCtrl => "RAM_CTRL"
  | .mpegStartHi => "MPEG_START_HI"
  | .mpegStartLo => "MPEG_START_LO"
  | .mpegEndHi => "MPEG_END_HI"
  | .mpegEndLo => "MPEG_END_LO"
  | .mpegKey1 => "MPEG_KEY1"
  | .mpegKey2 => "MPEG_KEY2"
  | .mpegKey3 => "MPEG_KEY3"
  | .mpegStatus => "MPEG_STATUS"
  | .mpegCtrl => "MPEG_CTRL"
  | .timerHi => "TIMER_HI"
  | .timerLo => "TIMER_LO"
  | .timerDiff => "TIMER_DIFF"
  | .ident => "IDENT"
  | .idBank => "ID_BANK"
  | .netData => "NET_DATA"
  | .netOutSize => "NET_OUT_SIZE"
  | .netInSize => "NET_IN_SIZE"
  | .netReset => "NET_RESET"
  | .netId => "NET_ID"
  | .out0 => "OUT_0"
  | .out1 => "OUT_1"
  | .out2 => "OUT_2"
  | .out3 => "OUT_3"
  | .unmapped => "UNMAPPED"

/-- The name of an event id (30_encoding.md R64). -/
def eventName (id : BitVec 6) : String :=
  ["EV_RESET", "EV_FRAMESYNC", "EV_DEMAND", "EV_CRCERROR", "EV_FRAMEID", "EV_TICK", "EV_PUMP"].getD
    id.toNat ""

/-- A transaction in the spec's textual syntax (30_encoding.md R68): its kind, its selector or event name,
and its immediate where `shown`, in decimal. -/
def wordText (t : Txn) (shown : Bool) : String :=
  let imm := if shown then ", #" ++ toString (dataOf t).toNat else ""
  if kindOf t = eventField then "ev " ++ eventName (selOf t) ++ imm
  else
    let kind := if kindOf t = kindField .wr then "wr " else if kindOf t = kindField .rd then "rd " else "ird "
    kind ++ ((selectorOf (selOf t)).map selectorName).getD "" ++ imm

/-- The operation has an immediate operand (30_encoding.md R62). -/
def hasImmediate (i : Instr) : Bool :=
  let t := encode i
  if kindOf t = eventField then decide (1 ≤ (selOf t).toNat ∧ (selOf t).toNat ≤ 4)
  else decide (kindOf t = kindField .wr)

/-- An operation in the spec's textual syntax (30_encoding.md R68). -/
def instrText (i : Instr) : String := wordText (encode i) (hasImmediate i)

end Sys2Proof.Machine
end

