-- ==== Sys2Proof/Safety.lean ====
section
/-! DEFINITION. What claims are stated in: completed runs, the launch premises (70_reset_and_hazards.md R340,
R342), the register table's undescribed directions (40_bus.md R83), the gate's tagged view (10_state.md
R16), and the invariants the spec's prose gives. -/

namespace Sys2Proof.Machine

/-- The run so far is completed: no operation was refused (60_exceptions.md R302, 70_reset_and_hazards.md
R340). -/
abbrev State.completed (s : State) : Prop := s.refused = none

/-- No refusal, and the gate is open: where the functional rules hold (40_bus.md R80). -/
abbrev State.live (s : State) : Prop := s.refused = none ∧ s.fw.initialized = true

/-- No refusal, and the gate is closed (40_bus.md R81). -/
abbrev State.closed (s : State) : Prop := s.refused = none ∧ s.fw.initialized = false

/-- Nothing is in flight inside the block: launch premise `Quiet` (70_reset_and_hazards.md R342). -/
abbrev State.quiet (s : State) : Prop :=
  s.mpeg.pendingByteCount = 0 ∧ s.net.outputQueue = [] ∧ s.net.outputFrame = [] ∧
    s.net.inputFrame = [] ∧ s.net.muxedInput = []

/-- A 41337-byte image as the loader holds it: in canonical form, nothing listed past its last byte
(10_state.md R15, log 9). -/
abbrev IsImage (image : Memory) : Prop := image.wf ∧ ∀ p ∈ image, p.1 < fwBytes

/-- The state after power-on, arming and a full load of an image, which selects the variant
(70_reset_and_hazards.md R342, 41_gate.md R106). -/
def State.launchOpen (c : Config) (image : Memory) : State :=
  { State.reset with
    fw := { status := 0x7000, initialized := true, preInit := true,
            bitsReceived := BitVec.ofNat 32 fwBits, pendingByte := 0, image := image }
    cipher := { CipherState.reset with variant := selectVariant c image } }

/-- Launch premise `Open(V)`: the state after a full load of an image whose `FW_CHECKSUM` selects `v`. The
operations to come and what the environment supplies are the model's own fields, and free
(70_reset_and_hazards.md R342, log 1, log 3). -/
def OpenLaunch (c : Config) (v : Variant) (s : State) : Prop :=
  ∃ image, IsImage image ∧ selectVariant c image = v ∧
    s = { State.launchOpen c image with pending := s.pending, env := s.env }

/-- `functional(s)`: every selector but FW_STATUS, FW_DATA and UNMAPPED (40_bus.md R80). -/
def functional (sel : Selector) : Bool := sel != .fwStatus && sel != .fwData && sel != .unmapped

/-- The undescribed directions: the cells marked R83 in the register table (30_encoding.md R63), the reads
of FW_DATA in the open state among them (41_gate.md R108). -/
def undocumented : Access → Selector → Bool
  | .wr, sel => decide (sel ∈ [.ramCtrl, .timerHi, .timerDiff, .idBank, .netOutSize, .netInSize])
  | _, sel => decide (sel ∈ [.fwData, .ramWaddrHi, .ramWaddrLo, .ramRaddrHi, .ramRaddrLo, .ramCtrl,
      .mpegStartHi, .mpegStartLo, .mpegEndHi, .mpegEndLo, .mpegKey1, .mpegKey2, .mpegKey3, .netReset,
      .netId, .out0, .out1, .out2, .out3])

/-- The tagged views of the gate (10_state.md R16). They may overlap: the fields are what counts. -/
def FirmwareLoad.isUninit (f : FirmwareLoad) : Bool := !f.initialized && !f.preInit
/-- `PreInit` (10_state.md R16). -/
def FirmwareLoad.isPreInit (f : FirmwareLoad) : Bool :=
  !f.initialized && f.preInit && f.bitsReceived == 0
/-- `Loading` (10_state.md R16). -/
def FirmwareLoad.isLoading (f : FirmwareLoad) : Bool := !f.initialized && f.bitsReceived != 0
/-- `Initialized` with its variant (10_state.md R16). -/
def State.initializedVariant (s : State) : Option Variant :=
  if s.fw.initialized then some s.cipher.variant else none

/-- `addr & ~M == 0` (10_state.md R17, R22). -/
abbrev Masked (a : Addr) : Prop := a &&& ~~~addrMask = 0

/-- Every stored address is masked (10_state.md R17, R22; 20_memory.md R42). -/
abbrev AddressesMasked (s : State) : Prop :=
  Masked s.store.writeAddr ∧ Masked s.store.readAddr ∧ Masked s.mpeg.currentAddr ∧ Masked s.mpeg.endAddr

/-- The sparse tables keep their canonical form (log 8, log 9, log 10). -/
abbrev TablesCanonical (s : State) : Prop :=
  s.store.words.wf ∧ s.fw.image.wf ∧ s.net.inputFrame.wf

/-- Nothing is listed outside the store's L words and the N ports (10_state.md R17, R28). -/
abbrev TablesBounded (s : State) : Prop :=
  (∀ p ∈ s.store.words, p.1 < 2 * Config.board.storeWords) ∧
    ∀ p ∈ s.net.inputFrame, p.1 < Config.board.numPorts

/-- The bit count and the gate: open with LOADED stored and every bit counted, or closed below the full
count; only received bytes are listed (10_state.md R15, 41_gate.md R103). -/
abbrev GateCounted (f : FirmwareLoad) : Prop :=
  (if f.initialized then f.status &&& 0x4000 ≠ 0 ∧ f.bitsReceived.toNat = fwBits
   else f.bitsReceived.toNat < fwBits) ∧
    ∀ p ∈ f.image, p.1 < f.bitsReceived.toNat / 8

/-- A buffer in progress: empty, or one opening delimiter and bytes that are no delimiter
(10_state.md R29, 45_network.md R231). -/
def BufferOk (buf : List Byte) : Prop := buf = [] ∨ ∃ p, buf = delim :: p ∧ delim ∉ p

/-- A completed frame: delimiters at both ends around at least one byte, none of them a delimiter
(10_state.md R29, 45_network.md R231). -/
def FrameOk (frame : List Byte) : Prop := ∃ p, p ≠ [] ∧ delim ∉ p ∧ frame = delim :: (p ++ [delim])

/-- The framer over a sequence of bytes from a buffer in progress: the frames it completes, in order, and
the buffer it leaves (45_network.md R230, R231, R240). -/
def framesOf (buf : List Byte) : List Byte → List (List Byte) × List Byte
  | [] => ([], buf)
  | b :: bs =>
    let r := frameStep buf b
    let q := framesOf r.1 bs
    (r.2.toList ++ q.1, q.2)

/-- The framing invariant (10_state.md R29). -/
def Framed (n : NetState) : Prop :=
  BufferOk n.outputFrame ∧ (∀ i, BufferOk (n.inputFrame.read i)) ∧ ∀ f ∈ n.outputQueue, FrameOk f

/-- Byte conservation (45_network.md R246). -/
def Conserved (n : NetState) : Prop :=
  n.outputByteCount.toNat = (n.outputQueue.map List.length).sum % 2 ^ 16

/-- Components 2 to 7 hold their reset values, but for the three callback bits
(70_reset_and_hazards.md R325). -/
def Inert (s : State) : Prop :=
  s.store = AddressWindow.reset ∧ s.cipher = CipherState.reset ∧
    s.mpeg = { MpegChannel.reset with demand := s.mpeg.demand, crcError := s.mpeg.crcError,
                                      playing := s.mpeg.playing } ∧
    s.ident = IdentityBridge.reset ∧ s.net = NetState.reset ∧ s.out = OutputBank.reset

/-- Latches 4 to 7 keep their reset value (10_state.md R30). -/
def UpperLatchesZero (o : OutputBank) : Prop := ∀ t : Fin 8, 4 ≤ t.val → o.get t = 0

end Sys2Proof.Machine
end

