-- ==== Sys2Proof/Certificates/Slice0/Obligations.lean ====
section
/-! DEFINITION. The statements for the provers. Parameters are those of the opaque `Config.board`, so each
holds for every value the spec admits. `s.refused = none` is the premise the spec asks of every claim
(40_bus.md R84). An equation with `.next` is also the frame: every field it does not name is unchanged. -/

open Sys2Proof Sys2Proof.Machine

/-! ## Encoding, fetch and dispatch -/

/-- Decoding an encoded instruction gives it back, with every operand (30_encoding.md R60, R63, R64). -/
def Obligations.DecodeInvertsEncode : Prop := ∀ i : Instr, decode (encode i) = .ok i

/-- The decoder is total and reads exactly the bits that count: reserved selectors and reserved events are
rejected by name, every other word is the one operation whose kind and selector it has, with a write's data
and a callback's level as they stand in it, and ignored bits do not matter (30_encoding.md R65, R66, R67). -/
def Obligations.DecoderTotalAndIgnoresIgnoredBits : Prop :=
  ∀ t u : Txn,
    let kind := t.extractLsb' 22 2
    let sel := (t.extractLsb' 16 6).toNat
    (decode t = .error .selector ↔ kind ≠ 0b10 ∧ 0x1F ≤ sel ∧ sel ≤ 0x3E) ∧
    (decode t = .error .event ↔ kind = 0b10 ∧ 0x07 ≤ sel) ∧
    (∀ i, decode t = .ok i →
      (encode i).extractLsb' 16 8 = t.extractLsb' 16 8 ∧
      (kind = 0b00 → encode i = t) ∧
      (kind = 0b10 → 0x01 ≤ sel → sel ≤ 0x04 → (encode i).getLsbD 0 = t.getLsbD 0)) ∧
    (u.extractLsb' 16 8 = t.extractLsb' 16 8 →
      kind = 0b01 ∨ kind = 0b11 ∨
        (kind = 0b10 ∧ (u.getLsbD 0 = t.getLsbD 0 ∨ sel = 0x00 ∨ sel = 0x05 ∨ sel = 0x06)) →
      decode u = decode t)

/-- Words written out from the tables of 30_encoding.md R63 and R64 decode to their operations. -/
def Obligations.SampleWordsDecode : Prop :=
  decode 0x008000 = .ok (.wrFwStatus 0x8000) ∧
  decode 0x06CAFE = .ok (.wrRamData 0xCAFE) ∧
  decode 0x0C1234 = .ok (.wrMpegKey1 0x1234) ∧
  decode 0x500000 = .ok .rdMpegCtrl ∧
  decode 0x1600C0 = .ok (.wrNetData 0x00C0) ∧
  decode 0xD40000 = .ok .irdIdent ∧
  decode 0x1E4000 = .ok (.wrOut3 0x4000) ∧
  decode 0x7F0000 = .ok .rdUnmapped ∧
  decode 0x82FFFE = .ok (.evDemand false) ∧
  decode 0x860000 = .ok .evPump

/-- A step performs the oldest delivered word: exec of the decoded instruction, at the state with that
arrival taken and its environment inputs in force (40_bus.md R80; the list of arrivals is the model's, log 1,
log 3). With nothing delivered nothing changes (log 2). -/
def Obligations.StepPerformsDecodedWord : Prop :=
  ∀ s : State, s.refused = none →
    (s.pending = [] → step s = .next s) ∧
    ∀ t e rest, s.pending = { request := .word t, env := e } :: rest →
      (∀ i, decode t = .ok i → step s = exec i { s with pending := rest, env := e }) ∧
      (decode t = .error .selector →
        step s = .next { s with pending := rest, env := e, refused := some .reservedSelector,
                                returned := none }) ∧
      (decode t = .error .event →
        step s = .next { s with pending := rest, env := e, refused := some .reservedEvent,
                                returned := none })

/-- A host access of 16 bits at an even address is the operation of its kind on the register its address
decodes to; any other access is refused (30_encoding.md R61, 20_memory.md R47). -/
def Obligations.HostAccessIsItsOperation : Prop :=
  ∀ s a e rest, s.refused = none → s.pending = { request := .access a, env := e } :: rest →
    step s =
      if a.width = 16 ∧ a.addr.toNat % 2 = 0 then
        exec (accessInstr a.kind (Config.board.addrSel (Fin.ofNat 128 (a.addr.toNat / 2))) a.data)
          { s with pending := rest, env := e }
      else
        .next { s with pending := rest, env := e, refused := some .badWidthOrAlignment, returned := none }

/-- Every register but ID_BANK has exactly one bus address, and ID_BANK has at least one
(20_memory.md R40). -/
def Obligations.EveryRegisterHasOneAddress : Prop :=
  ∀ c : Config,
    (∀ sel, sel ≠ .idBank → sel ≠ .unmapped → ∃! a : Fin 128, c.addrSel a = sel) ∧
      ∃ a : Fin 128, c.addrSel a = .idBank

/-- A refused run takes no further step, whatever the operation (40_bus.md R80, R84). -/
def Obligations.RefusedRunTakesNoStep : Prop :=
  ∀ s r, s.refused = some r →
    step s = .refused .runRefused ∧ ∀ i, exec i s = .refused .runRefused

/-- While the gate is closed a read of a functional register returns 0xFFFF, a write has no effect, and
nothing else changes: every WR, RD and IRD of every selector but FW_STATUS, FW_DATA and UNMAPPED
(40_bus.md R81). -/
def Obligations.ClosedGateReadsSentinel : Prop :=
  ∀ s kind sel data, s.refused = none → s.fw.initialized = false → functional sel = true →
    exec (accessInstr kind sel data) s =
      .next { s with returned := if kind = .wr then none else some 0xFFFF }

/-- While the gate is open an access in an undescribed direction sets the refusal mark with its selector
and kind, returns nothing, changes nothing else, and ends the run (40_bus.md R83, R84). -/
def Obligations.UndocumentedAccessIsRefused : Prop :=
  ∀ s kind sel data, s.refused = none → s.fw.initialized = true → undocumented kind sel = true →
    exec (accessInstr kind sel data) s =
        .next { s with refused := some (.undocumentedAccess sel kind), returned := none } ∧
      ∀ i, exec i { s with refused := some (.undocumentedAccess sel kind), returned := none } =
        .refused .runRefused

/-- Reads of the identity bank and of FW_DATA: 0xFFFF while the gate is closed, refused while it is open
(46_identity_output.md R278, 41_gate.md R108). -/
def Obligations.BankAndFirmwareDataReads : Prop :=
  ∀ s : State, s.refused = none →
    (∀ i, i = .rdIdBank ∨ i = .irdIdBank →
      exec i s = .next (if s.fw.initialized then { s with refused := some .identityBank, returned := none }
        else { s with returned := some 0xFFFF })) ∧
    exec .rdFwData s = .next (if s.fw.initialized then
        { s with refused := some (.undocumentedAccess .fwData .rd), returned := none }
      else { s with returned := some 0xFFFF }) ∧
    exec .irdFwData s = .next (if s.fw.initialized then
        { s with refused := some (.undocumentedAccess .fwData .ird), returned := none }
      else { s with returned := some 0xFFFF })

/-- An unmapped read returns 0xFFFF and an unmapped write has no effect, with the gate open or closed
(40_bus.md R82). -/
def Obligations.UnmappedReadsAllOnes : Prop :=
  ∀ s data, s.refused = none →
    exec .rdUnmapped s = .next { s with returned := some 0xFFFF } ∧
    exec .irdUnmapped s = .next { s with returned := some 0xFFFF } ∧
    exec (.wrUnmapped data) s = .next { s with returned := none }

/-- An inspection read that is not refused changes no field of the block, and returns what the read of the
same register returns in the same state, but for IDENT (40_bus.md R85, R135, R198, R234). A refused one sets
the refusal mark (log 6). -/
def Obligations.InspectionReadsChangeNothing : Prop :=
  ∀ sel s t, exec (accessInstr .ird sel 0) s = .next t → t.refused = none →
    t = { s with returned := t.returned } ∧
    (sel ≠ .ident → ∃ u, exec (accessInstr .rd sel 0) s = .next u ∧ u.returned = t.returned)

/-! ## The gate -/

/-- FW_STATUS reads the stored status with bit 15 forced set and bit 14 forced clear, with the gate open or
closed (41_gate.md R100). -/
def Obligations.FirmwareStatusReads : Prop :=
  ∀ s : State, s.refused = none →
    exec .rdFwStatus s = .next { s with returned := some ((s.fw.status &&& ~~~0x4000) ||| 0x8000) } ∧
    exec .irdFwStatus s = .next { s with returned := some ((s.fw.status &&& ~~~0x4000) ||| 0x8000) }

/-- A status write while the gate is closed: the arming step, then the toggle step on what it left
(41_gate.md R101, R102, R104). -/
def Obligations.StatusWriteWhileClosed : Prop :=
  ∀ s (data : Word), s.refused = none → s.fw.initialized = false →
    let arm : Bool := !s.fw.preInit && (data.getLsbD 15 || data.getLsbD 13)
    let armed : Word := if arm then (s.fw.status &&& ~~~0xA000) ||| 0x1000 else s.fw.status
    let toggle : Bool := data.getLsbD 14 || data.getLsbD 12
    exec (.wrFwStatus data) s = .next { s with
      fw := { s.fw with
        status := if toggle && (s.fw.preInit || arm) then armed ^^^ 0x1000 else armed
        preInit := s.fw.preInit || arm || toggle }
      returned := none }

/-- A status write while the gate is open stores the data verbatim; where the stored LOADED bit is set and
the data's bit 14 is clear it first resets every component to the closed gate, emitting nothing
(41_gate.md R103, 70_reset_and_hazards.md R322). That the model's own fields stay over the reset, but for the
returned value, is the model's choice (log 17). -/
def Obligations.StatusWriteWhileOpen : Prop :=
  ∀ s (data : Word), s.refused = none → s.fw.initialized = true →
    exec (.wrFwStatus data) s = .next (
      if s.fw.status.getLsbD 14 = true ∧ data.getLsbD 14 = false then
        { State.reset with
          fw := { State.reset.fw with status := data }
          trace := s.trace, refused := s.refused, pending := s.pending, env := s.env, returned := none }
      else { s with fw := { s.fw with status := data }, returned := none })

/-- A firmware data write is ignored once the gate is open or while ACCEPT is clear. An accepted bit goes to
bit `7 - bitsReceived % 8` of the pending byte, and every eighth bit stores the byte; on the last bit the load
completes as well: DONE and LOADED set, the gate open, the variant chosen by the checksum of the image
(41_gate.md R105, R106). -/
def Obligations.FirmwareBitWrites : Prop :=
  ∀ s (data : Word), s.refused = none →
    (s.fw.initialized = true ∨ s.fw.status.getLsbD 12 = false →
      exec (.wrFwData data) s = .next { s with returned := none }) ∧
    (s.fw.initialized = false → s.fw.status.getLsbD 12 = true →
      s.fw.bitsReceived.toNat < fwBits → s.fw.image.wf →
      let n := s.fw.bitsReceived.toNat + 1
      ∃ t, exec (.wrFwData data) s = .next t ∧
        t.fw.bitsReceived.toNat = n ∧ t.fw.preInit = s.fw.preInit ∧
        (let byte : Byte := s.fw.pendingByte |||
            ((if data.getLsbD 15 then (1 : Byte) else 0) <<< (7 - s.fw.bitsReceived.toNat % 8))
         if n % 8 = 0 then
           t.fw.pendingByte = 0 ∧ t.fw.image.read (n / 8 - 1) = byte ∧
             ∀ k, k ≠ n / 8 - 1 → t.fw.image.read k = s.fw.image.read k
         else t.fw.pendingByte = byte ∧ t.fw.image = s.fw.image) ∧
        (if n = fwBits then
           t.fw.status = s.fw.status ||| 0x6000 ∧ t.fw.initialized = true ∧
           t = { s with
             fw := t.fw
             cipher := { s.cipher with
               variant := if Config.board.fwChecksum (Vector.ofFn fun k => t.fw.image.read k.val) =
                 Config.board.altChecksum then .alternate else .default }
             returned := none }
         else
           t.fw.status = s.fw.status ∧ t.fw.initialized = false ∧ t = { s with fw := t.fw, returned := none }))

/-- From power-on, arming the loader and writing any 41337-byte image bit by bit, most significant bit
first, reaches the launch state `Open(V)` of the variant the image selects: the gate opens on the last bit
and not before, the stored status is 0x7000, the image is stored, its checksum has chosen the variant, and
nothing else has changed
(70_reset_and_hazards.md R323 and R342, which the spec marks as its own inferences; 41_gate.md R107). -/
def Obligations.FirmwareLoadOpensTheGate : Prop :=
  ∀ img : List Byte, img.length = fwBytes →
    (∃ t, execAll (.wrFwStatus 0x8000 :: fwload img) State.reset = .next t ∧
      t.fw.status = 0x7000 ∧ t.fw.initialized = true ∧ t.fw.preInit = true ∧
      t.fw.bitsReceived.toNat = fwBits ∧ t.fw.pendingByte = 0 ∧
      (∀ k, t.fw.image.read k = img.getD k 0) ∧
      t = { State.reset with
        fw := t.fw
        cipher := { State.reset.cipher with
          variant := if Config.board.fwChecksum (Vector.ofFn fun k => img.getD k.val 0) =
            Config.board.altChecksum then .alternate else .default } } ∧
      OpenLaunch Config.board t.cipher.variant t) ∧
    ∀ n, n < fwBits → ∃ u,
      execAll (.wrFwStatus 0x8000 :: (fwload img).take n) State.reset = .next u ∧
        u.fw.initialized = false ∧ u.fw.bitsReceived.toNat = n

/-- The gate opens only on the last accepted firmware bit, and closes only through the gate-reset path of a
status write or a controller reset (41_gate.md R103, R107). -/
def Obligations.GateChangesOnlyByLoadOrReset : Prop :=
  ∀ i s t, exec i s = .next t →
    (s.fw.initialized = false → t.fw.initialized = true →
      ∃ data, i = .wrFwData data ∧ s.fw.status.getLsbD 12 = true ∧
        s.fw.bitsReceived.toNat + 1 = fwBits) ∧
    (s.fw.initialized = true → t.fw.initialized = false →
      i = .evReset ∨ ∃ data : Word, i = .wrFwStatus data ∧ s.fw.status.getLsbD 14 = true ∧
        data.getLsbD 14 = false)

/-- While the gate stays open no step changes the cipher variant or the firmware image (41_gate.md R109, which
the spec marks as its own inference). -/
def Obligations.VariantAndImageStableWhileOpen : Prop :=
  ∀ s t, s.fw.initialized = true → step s = .next t → t.fw.initialized = true →
    t.cipher.variant = s.cipher.variant ∧ t.fw.image = s.fw.image

/-- Every step keeps the load's bookkeeping: open with LOADED stored and the count full, or closed with the
count below 330696, and only received bytes stored (10_state.md R15, 41_gate.md R103). -/
def Obligations.LoadBookkeepingKept : Prop :=
  ∀ s t, GateCounted s.fw → step s = .next t → GateCounted t.fw

/-! ## The address window store -/

/-- The halves of the write and read cursors, masked. A read-cursor write refreshes the stale-value latch at
once from the new cursor where that is in range; a write-cursor write never touches it (42_window_store.md
R130, R131, R132, R133; 20_memory.md R45). -/
def Obligations.CursorHalvesSet : Prop :=
  ∀ s (data : Word), s.refused = none → s.fw.initialized = true →
    let hi (old : Addr) : Addr := ((data.setWidth 32 <<< 16) ||| (old &&& 0x0000FFFF)) &&& 0x01FFFFFE
    let lo (old : Addr) : Addr := ((old &&& 0xFFFF0000) ||| data.setWidth 32) &&& 0x01FFFFFE
    let moved (a : Addr) : State := { s with
      store := { s.store with
        readAddr := a
        lastValidRead := if (a >>> 1).toNat < Config.board.storeWords then s.store.words.readWord a.toNat
          else s.store.lastValidRead }
      returned := none }
    exec (.wrRamWaddrHi data) s =
      .next { s with store := { s.store with writeAddr := hi s.store.writeAddr }, returned := none } ∧
    exec (.wrRamWaddrLo data) s =
      .next { s with store := { s.store with writeAddr := lo s.store.writeAddr }, returned := none } ∧
    exec (.wrRamRaddrHi data) s = .next (moved (hi s.store.readAddr)) ∧
    exec (.wrRamRaddrLo data) s = .next (moved (lo s.store.readAddr))

/-- A data read returns the word under the cursor, or the stale value out of range; the latch takes it, the
cursor moves on, and the latch is refreshed. A disabled store returns the latch and moves nothing. An
inspection read returns the same and changes nothing (42_window_store.md R134, R135). -/
def Obligations.DataReadReturnsWordOrStaleValue : Prop :=
  ∀ s : State, s.refused = none → s.fw.initialized = true →
    let inR (a : Addr) : Prop := (a >>> 1).toNat < Config.board.storeWords
    let v : Word := if inR s.store.readAddr then s.store.words.readWord s.store.readAddr.toNat
      else s.store.lastValidRead
    let a : Addr := (s.store.readAddr + 2) &&& 0x01FFFFFE
    exec .rdRamData s = .next (
      if Config.board.storeEn then
        { s with
          store := { s.store with
            readAddr := a
            lastValidRead := if inR a then s.store.words.readWord a.toNat else v }
          returned := some v }
      else { s with returned := some s.store.lastValidRead }) ∧
    exec .irdRamData s = .next { s with
      returned := some (if Config.board.storeEn then v else s.store.lastValidRead) }

/-- A data write stores the word under the write cursor if it is in range and the store is enabled, and no
other byte changes; the cursor moves on whether in range or not, unless the store is disabled; the latch is
never written (42_window_store.md R136). -/
def Obligations.DataWriteStoresWord : Prop :=
  ∀ s (data : Word), s.refused = none → s.fw.initialized = true → s.store.words.wf →
    ∃ t, exec (.wrRamData data) s = .next t ∧
      t = { s with
        store := { s.store with
          words := t.store.words
          writeAddr := if Config.board.storeEn then (s.store.writeAddr + 2) &&& 0x01FFFFFE
            else s.store.writeAddr }
        returned := none } ∧
      if Config.board.storeEn = true ∧ (s.store.writeAddr >>> 1).toNat < Config.board.storeWords then
        t.store.words.readWord s.store.writeAddr.toNat = data ∧
        ∀ b, b ≠ s.store.writeAddr.toNat → b ≠ s.store.writeAddr.toNat + 1 →
          t.store.words.read b = s.store.words.read b
      else t.store.words = s.store.words

/-- Writing a word at an address and reading back at that address returns the word, for every address whose
masked form is in range, whatever the cursors were (42_window_store.md R137, which the spec marks as its own
inference); with the store disabled the latch comes back, refreshed with the old word (R132, R134). -/
def Obligations.StoreRoundTrips : Prop :=
  ∀ s (a : Addr) (v : Word), s.refused = none → s.fw.initialized = true → s.store.words.wf →
    ((a &&& 0x01FFFFFE) >>> 1).toNat < Config.board.storeWords →
    ∃ t, execAll (wr32RamWaddr a ++ [.wrRamData v] ++ wr32RamRaddr a ++ [.rdRamData]) s = .next t ∧
      t.returned = some (if Config.board.storeEn then v
        else s.store.words.readWord (a &&& 0x01FFFFFE).toNat)

/-! ## The stream cipher -/

/-- Each key register loads its key, the third from the low byte only, and changes nothing else
(43_cipher.md R160, R161, R162). -/
def Obligations.KeyRegistersLoadKeys : Prop :=
  ∀ s (data : Word), s.refused = none → s.fw.initialized = true →
    exec (.wrMpegKey1 data) s = .next { s with cipher := { s.cipher with key1 := data }, returned := none } ∧
    exec (.wrMpegKey2 data) s = .next { s with cipher := { s.cipher with key2 := data }, returned := none } ∧
    exec (.wrMpegKey3 data) s =
      .next { s with cipher := { s.cipher with key3 := data.setWidth 8 }, returned := none }

/-- The Default key step: bits 14:0 of key1 rotate left and bit 15 stays; key2 rotates left exactly when
the new key1's bits 15 and 0 differ; key3 counts modulo 256 (43_cipher.md R154). -/
def Obligations.DefaultKeyStepRotates : Prop :=
  ∀ k : CipherState, k.variant = .default →
    let k' := k.keyStep
    (k'.key1.getLsbD 15 = k.key1.getLsbD 15 ∧ k'.key1.getLsbD 0 = k.key1.getLsbD 14 ∧
      ∀ i, i < 14 → k'.key1.getLsbD (i + 1) = k.key1.getLsbD i) ∧
    k'.key2 = (if k.key1.getLsbD 15 = k.key1.getLsbD 14 then k.key2 else k.key2.rotateLeft 1) ∧
    k'.key3.toNat = (k.key3.toNat + 1) % 256 ∧ k'.variant = .default

/-- The Default word map, bit by bit: pair `j` is swapped by mask bit `T[j]`, the even bit is XORed with
mask bit `Q[j]`, and output bit `b` is XORed with bit `K[b]` of key3, the mask being key1 XOR key2
(43_cipher.md R150, R151, R152, R153). -/
def Obligations.DefaultWordMapBits : Prop :=
  ∀ (k : CipherState) (w : Word) (j : Fin 8), k.variant = .default →
    let m := k.key1 ^^^ k.key2
    let T : Vector Nat 8 := #v[0x2, 0x3, 0x5, 0x8, 0x9, 0xB, 0xE, 0xF]
    let Q : Vector Nat 8 := #v[0, 1, 4, 6, 7, 10, 12, 13]
    let K : List Nat := [7, 0, 6, 1, 5, 2, 4, 3, 3, 4, 2, 5, 1, 6, 0, 7]
    (k.wordMap w).getLsbD (2 * j) =
      (((if m.getLsbD T[j] then w.getLsbD (2 * j + 1) else w.getLsbD (2 * j)) ^^ m.getLsbD Q[j]) ^^
        k.key3.getLsbD (K.getD (2 * j) 0)) ∧
    (k.wordMap w).getLsbD (2 * j + 1) =
      ((if m.getLsbD T[j] then w.getLsbD (2 * j) else w.getLsbD (2 * j + 1)) ^^
        k.key3.getLsbD (K.getD (2 * j + 1) 0))

/-- The Alternate key table: byte `2i` is the low byte of the permuted key1 rotated left `i` times, byte
`2i + 1` its high byte (43_cipher.md R156). -/
def Obligations.AlternateKeyTableRotates : Prop :=
  ∀ (k1 : Word) (i b : Fin 8),
    let low : Vector Nat 8 := #v[0, 2, 4, 6, 8, 10, 12, 14]
    let high : Vector Nat 8 := #v[15, 1, 3, 5, 7, 9, 11, 13]
    (altKeyTable k1).length = 16 ∧
    ((altKeyTable k1).getD (2 * i) 0).getLsbD b = k1.getLsbD low[b - i] ∧
    ((altKeyTable k1).getD (2 * i + 1) 0).getLsbD b = k1.getLsbD high[b - i]

/-- The Alternate advance, pair by pair: swapped where the scramble byte's bit is set, then the even bit
XORed with the key byte's bit; the key byte is number `key3 mod 16`, the scramble byte the one before it;
only key3 moves (43_cipher.md R155, R157; that key1 and key2 stay is what R155 marks as the spec's own
inference). -/
def Obligations.AlternateAdvanceBits : Prop :=
  ∀ (k : CipherState) (w : Word) (b : Fin 8), k.variant = .alternate →
    let kb := (altKeyTable k.key1).getD (k.key3.toNat % 16) 0
    let sb := (altKeyTable k.key1).getD ((k.key3.toNat + 15) % 16) 0
    (k.wordMap w).getLsbD (2 * b) =
      ((if sb.getLsbD b then w.getLsbD (2 * b + 1) else w.getLsbD (2 * b)) ^^ kb.getLsbD b) ∧
    (k.wordMap w).getLsbD (2 * b + 1) =
      (if sb.getLsbD b then w.getLsbD (2 * b) else w.getLsbD (2 * b + 1)) ∧
    k.keyStep = { k with key3 := k.key3 + 1 }

/-- For a fixed keyed state each variant's word map is a bijection on 16-bit words (43_cipher.md R159, which
the spec marks as its own inference). -/
def Obligations.CipherWordMapIsBijective : Prop :=
  ∀ k : CipherState, Function.Bijective k.wordMap

/-! ## The transfer engine -/

/-- The halves of the current and end addresses, masked; nothing else changes (44_mpeg_transfer.md R180,
R181, R182, R183). -/
def Obligations.TransferAddressesSet : Prop :=
  ∀ s (data : Word), s.refused = none → s.fw.initialized = true →
    let hi (old : Addr) : Addr := ((data.setWidth 32 <<< 16) ||| (old &&& 0x0000FFFF)) &&& 0x01FFFFFE
    let lo (old : Addr) : Addr := ((old &&& 0xFFFF0000) ||| data.setWidth 32) &&& 0x01FFFFFE
    exec (.wrMpegStartHi data) s =
      .next { s with mpeg := { s.mpeg with currentAddr := hi s.mpeg.currentAddr }, returned := none } ∧
    exec (.wrMpegStartLo data) s =
      .next { s with mpeg := { s.mpeg with currentAddr := lo s.mpeg.currentAddr }, returned := none } ∧
    exec (.wrMpegEndHi data) s =
      .next { s with mpeg := { s.mpeg with endAddr := hi s.mpeg.endAddr }, returned := none } ∧
    exec (.wrMpegEndLo data) s =
      .next { s with mpeg := { s.mpeg with endAddr := lo s.mpeg.endAddr }, returned := none }

/-- The control write: stored verbatim; `frameCounter` cleared where its enable is clear; the sample
counters cleared when both enables come to be set, under the Default variant; `hasEnded` cleared, and the
decoder told, when either enable falls (44_mpeg_transfer.md R190, R207). -/
def Obligations.ControlWriteActs : Prop :=
  ∀ s (data : Word), s.refused = none → s.fw.initialized = true →
    let S (w : Word) : Bool := w.getLsbD Config.board.streamBit
    let Mp (w : Word) : Bool := w.getLsbD Config.board.mpegBit
    let old := s.mpeg.ctrl
    let rises : Bool := !(S old && Mp old) && (S data && Mp data) && s.cipher.variant != .alternate
    let clears : Bool := s.mpeg.hasEnded && ((S old && !S data) || (Mp old && !Mp data))
    exec (.wrMpegCtrl data) s = .next { s with
      mpeg := { s.mpeg with
        ctrl := data
        frameCounter := if data.getLsbD Config.board.fceBit then s.mpeg.frameCounter else 0
        sampleCounter := if rises then 0 else s.mpeg.sampleCounter
        sampleCounterLatched := if rises then 0 else s.mpeg.sampleCounterLatched
        hasEnded := if clears then false else s.mpeg.hasEnded }
      trace := if clears then s.trace ++ [.resetMpegState] else s.trace
      returned := none }

/-- MPEG_CTRL reads the stored bits but for bit 12, which reports "is streaming" (44_mpeg_transfer.md R184,
R191). -/
def Obligations.ControlReadReportsStreaming : Prop :=
  ∀ s : State, s.refused = none → s.fw.initialized = true →
    ∀ i, i = .rdMpegCtrl ∨ i = .irdMpegCtrl →
      ∃ v : Word, exec i s = .next { s with returned := some v } ∧
        (∀ k, k < 16 → k ≠ 12 → v.getLsbD k = s.mpeg.ctrl.getLsbD k) ∧
        (v.getLsbD 12 = true ↔
          s.mpeg.ctrl.getLsbD Config.board.streamBit = true ∧
          (s.mpeg.currentAddr ≠ s.mpeg.endAddr ∨ 0 < s.mpeg.pendingByteCount.val) ∧
          s.mpeg.hasEnded = false)

/-- MPEG_STATUS reads the three stored status bits at their places, the enable bit set and every other bit
clear; a write of it has no effect (44_mpeg_transfer.md R192, R193). -/
def Obligations.StatusReadsFourBits : Prop :=
  ∀ s (data : Word), s.refused = none → s.fw.initialized = true →
    exec (.wrMpegStatus data) s = .next { s with returned := none } ∧
    ∀ i, i = .rdMpegStatus ∨ i = .irdMpegStatus →
      ∃ v : Word, exec i s = .next { s with returned := some v } ∧
        ∀ k, k < 16 → v.getLsbD k =
          if k = Config.board.demandBit then s.mpeg.demand
          else if k = Config.board.crcBit then s.mpeg.crcError
          else if k = Config.board.playBit then s.mpeg.playing
          else decide (k = Config.board.enBit)

/-- The timer reads: high and low halves with the counter latched, but the placeholder and no latch for the
high read under the Alternate variant; the difference with both upper halves cleared. Inspection reads return
the same and change nothing (44_mpeg_transfer.md R194, R195, R196, R198). -/
def Obligations.TimerReadsLatchAndClear : Prop :=
  ∀ s : State, s.refused = none → s.fw.initialized = true →
    let n := s.mpeg.sampleCounter
    let latched : State := { s with mpeg := { s.mpeg with sampleCounterLatched := n } }
    let high : Word := if s.cipher.variant = .alternate then Config.board.altTimerHi
      else BitVec.ofNat 16 (n.toNat / 2 ^ 16)
    let low : Word := n.setWidth 16
    let diff : Word := (n - s.mpeg.sampleCounterLatched).setWidth 16
    exec .rdTimerHi s = .next { (if s.cipher.variant = .alternate then s else latched) with
      returned := some high } ∧
    exec .rdTimerLo s = .next { latched with returned := some low } ∧
    exec .rdTimerDiff s = .next { s with
      mpeg := { s.mpeg with
        sampleCounter := n &&& 0x0000FFFF
        sampleCounterLatched := s.mpeg.sampleCounterLatched &&& 0x0000FFFF }
      returned := some diff } ∧
    exec .irdTimerHi s = .next { s with returned := some high } ∧
    exec .irdTimerLo s = .next { s with returned := some low } ∧
    exec .irdTimerDiff s = .next { s with returned := some diff }

/-- A low-timer write, of any value, clears both counters and, except under the Alternate variant, sets
`timerEnabled` to "is streaming" (44_mpeg_transfer.md R197). -/
def Obligations.TimerWriteClearsCounters : Prop :=
  ∀ s (data : Word), s.refused = none → s.fw.initialized = true →
    exec (.wrTimerLo data) s = .next { s with
      mpeg := { s.mpeg with
        sampleCounter := 0
        sampleCounterLatched := 0
        timerEnabled :=
          if s.cipher.variant = .alternate then s.mpeg.timerEnabled
          else s.mpeg.ctrl.getLsbD Config.board.streamBit &&
            (decide (s.mpeg.currentAddr ≠ s.mpeg.endAddr) || decide (0 < s.mpeg.pendingByteCount.val)) &&
            !s.mpeg.hasEnded }
      returned := none }

/-- The transfer tick, with the gate open or closed: nothing while demand is low; at the end of the stream
it sets `hasEnded` and clears streaming-enable; otherwise, with both enables set and the stream not ended,
it sends one byte, fetching, deciphering and byte-swapping a word first if none is pending; otherwise
nothing (44_mpeg_transfer.md R185, R200, R202). -/
def Obligations.TickSendsOneByte : Prop :=
  ∀ s : State, s.refused = none →
    let m := s.mpeg
    let S : Bool := m.ctrl.getLsbD Config.board.streamBit
    let Mp : Bool := m.ctrl.getLsbD Config.board.mpegBit
    let word : Word :=
      if Config.board.storeEn = true ∧ (m.currentAddr >>> 1).toNat < Config.board.storeWords then
        s.store.words.readWord m.currentAddr.toNat else 0
    let out := s.cipher.advance word
    exec .evTick s = .next (
      if m.demand = false then { s with returned := none }
      else if m.hasEnded = false ∧ S = true ∧ m.currentAddr = m.endAddr ∧ m.pendingByteCount = 0 then
        { s with
          mpeg := { m with hasEnded := true, ctrl := m.ctrl &&& ~~~((1 : Word) <<< Config.board.streamBit) }
          returned := none }
      else if Mp = false ∨ S = false ∨ m.hasEnded = true then { s with returned := none }
      else if m.pendingByteCount = 0 then
        { s with
          cipher := out.2
          mpeg := { m with
            pendingWord := ((out.1 <<< 8) ||| (out.1 >>> 8)) >>> 8
            currentAddr := (m.currentAddr + 2) &&& 0x01FFFFFE
            pendingByteCount := 1 }
          trace := s.trace ++ [.byteSink (((out.1 <<< 8) ||| (out.1 >>> 8)).setWidth 8)]
          returned := none }
      else
        { s with
          mpeg := { m with
            pendingWord := m.pendingWord >>> 8
            pendingByteCount := m.pendingByteCount - 1 }
          trace := s.trace ++ [.byteSink (m.pendingWord.setWidth 8)]
          returned := none })

/-- A stream that starts with an empty pipeline, its addresses masked, sends exactly
`(endAddr - currentAddr) mod 2^25` bytes, one a tick, and ends on the tick after the last byte: `hasEnded` is
set, streaming-enable is clear, and the current address is the end address (44_mpeg_transfer.md R200, its
corner case, and R201, which the spec marks as its own inferences). -/
def Obligations.StreamSendsItsBytesAndEnds : Prop :=
  ∀ s : State, s.refused = none → s.mpeg.demand = true → s.mpeg.hasEnded = false →
    s.mpeg.ctrl.getLsbD Config.board.streamBit = true → s.mpeg.ctrl.getLsbD Config.board.mpegBit = true →
    s.mpeg.pendingByteCount = 0 → Masked s.mpeg.currentAddr → Masked s.mpeg.endAddr →
    let n := (s.mpeg.endAddr - s.mpeg.currentAddr).toNat % 2 ^ 25
    ∃ t, execAll (List.replicate (n + 1) .evTick) s = .next t ∧
      (∃ bytes : List Byte, bytes.length = n ∧ t.trace = s.trace ++ bytes.map CallOut.byteSink) ∧
      t.mpeg.hasEnded = true ∧ t.mpeg.currentAddr = s.mpeg.endAddr ∧ t.mpeg.endAddr = s.mpeg.endAddr ∧
      t.mpeg.pendingByteCount = 0 ∧
      t.mpeg.ctrl = s.mpeg.ctrl &&& ~~~((1 : Word) <<< Config.board.streamBit)

/-- While `hasEnded` holds no tick changes anything, so no byte is sent and the cipher does not advance;
and only a tick sets it, with the addresses equal, nothing pending and streaming enabled
(44_mpeg_transfer.md R201, which the spec marks as its own inference). -/
def Obligations.EndedStreamStaysEnded : Prop :=
  ∀ s t : State,
    (s.refused = none → s.mpeg.hasEnded = true → exec .evTick s = .next { s with returned := none }) ∧
    ∀ i, exec i s = .next t → s.mpeg.hasEnded = false → t.mpeg.hasEnded = true →
      i = .evTick ∧ s.mpeg.currentAddr = s.mpeg.endAddr ∧ s.mpeg.pendingByteCount = 0 ∧
        s.mpeg.ctrl.getLsbD Config.board.streamBit = true

/-- The decoder's callbacks, with the gate open or closed: frame-sync with its counter and the first frame,
demand, frame-identification counting a sample, crc-error (44_mpeg_transfer.md R203, R204, R205, R206). -/
def Obligations.DecoderCallbacksAct : Prop :=
  ∀ s b, s.refused = none →
    exec (.evFrameSync b) s = .next { s with
      mpeg := (
        if b = true ∧ s.mpeg.ctrl.getLsbD Config.board.fceBit = true then
          { s.mpeg with
            playing := b
            timerEnabled := if s.mpeg.frameCounter = 0 then true else s.mpeg.timerEnabled
            frameCounter := s.mpeg.frameCounter + 1 }
        else { s.mpeg with playing := b })
      returned := none } ∧
    exec (.evDemand b) s = .next { s with mpeg := { s.mpeg with demand := b }, returned := none } ∧
    exec (.evFrameId b) s = .next { s with
      mpeg := { s.mpeg with
        sampleCounter :=
          if s.mpeg.ctrl.getLsbD Config.board.mpegBit = true ∧ s.mpeg.timerEnabled = true ∧ b = true then
            s.mpeg.sampleCounter + 1
          else s.mpeg.sampleCounter }
      returned := none } ∧
    exec (.evCrcError b) s = .next { s with mpeg := { s.mpeg with crcError := b }, returned := none }

/-! ## The network multiplexer -/

/-- A byte written to the network, whose buffer is one the framer leaves: dropped before an opening
delimiter, appended after one, a second delimiter at once absorbed, and a closing delimiter queues the frame
and counts its bytes (45_network.md R230, R231, R232). -/
def Obligations.NetworkWriteFrames : Prop :=
  ∀ s (data : Word), s.refused = none → s.fw.initialized = true → BufferOk s.net.outputFrame →
    let b : Byte := data.setWidth 8
    let buf := s.net.outputFrame
    exec (.wrNetData data) s = .next { s with
      net := (
        if b = 0xC0 then
          if buf.length < 2 then { s.net with outputFrame := [0xC0] }
          else { s.net with
            outputFrame := []
            outputQueue := s.net.outputQueue ++ [buf ++ [0xC0]]
            outputByteCount := s.net.outputByteCount + BitVec.ofNat 16 (buf.length + 1) }
        else if buf = [] then s.net else { s.net with outputFrame := buf ++ [b] })
      returned := none }

/-- A payload without delimiters, written between two delimiters from an empty buffer, is queued whole as
one frame and counted, and NET_OUT_SIZE shows the count (45_network.md R232, R235, R247). -/
def Obligations.NetsendQueuesTheFrame : Prop :=
  ∀ s (p : List Byte), s.refused = none → s.fw.initialized = true → s.net.outputFrame = [] →
    p ≠ [] → (0xC0 : Byte) ∉ p →
    execAll (netsend ([0xC0] ++ p ++ [0xC0]) ++ [.rdNetOutSize]) s = .next { s with
      net := { s.net with
        outputQueue := s.net.outputQueue ++ [[0xC0] ++ p ++ [0xC0]]
        outputByteCount := s.net.outputByteCount + BitVec.ofNat 16 (p.length + 2) }
      returned := some (s.net.outputByteCount + BitVec.ofNat 16 (p.length + 2)) }

/-- Two delimiters written from an empty buffer queue nothing and leave one delimiter (45_network.md R245,
which the spec marks as its own inference). -/
def Obligations.DegenerateFrameIsNeverQueued : Prop :=
  ∀ s : State, s.refused = none → s.fw.initialized = true → s.net.outputFrame = [] →
    execAll [.wrNetData 0xC0, .wrNetData 0xC0] s =
      .next { s with net := { s.net with outputFrame := [0xC0] }, returned := none }

/-- NET_DATA reads the front byte zero-extended, or 0 when the queue is empty, and pops it; its inspection
read does not pop; the size registers read the queued bytes modulo 2^16 (45_network.md R233, R234, R235,
R236). -/
def Obligations.NetworkReads : Prop :=
  ∀ s : State, s.refused = none → s.fw.initialized = true →
    let v : Word := match s.net.muxedInput with
      | [] => 0
      | b :: _ => b.setWidth 16
    exec .rdNetData s = .next { s with
      net := { s.net with muxedInput := s.net.muxedInput.drop 1 }, returned := some v } ∧
    exec .irdNetData s = .next { s with returned := some v } ∧
    (∀ i, i = .rdNetOutSize ∨ i = .irdNetOutSize →
      exec i s = .next { s with returned := some s.net.outputByteCount }) ∧
    (∀ i, i = .rdNetInSize ∨ i = .irdNetInSize →
      exec i s = .next { s with returned := some (BitVec.ofNat 16 s.net.muxedInput.length) })

/-- A write of NET_RESET, of any value, empties every buffer and queue and keeps the local id; a write of
NET_ID sets all 16 bits of the local id (45_network.md R237, R238, R239). -/
def Obligations.NetworkResetAndId : Prop :=
  ∀ s (data : Word), s.refused = none → s.fw.initialized = true →
    exec (.wrNetReset data) s =
      .next { s with net := { State.reset.net with localId := s.net.localId }, returned := none } ∧
    exec (.wrNetId data) s = .next { s with net := { s.net with localId := data }, returned := none }

/-- A pump does nothing while the gate is closed. While it is open it sends at most one frame, the oldest
queued: each port's projection of the call-outs is the frame's bytes in order if the port is connected, and
nothing otherwise, and the frame is counted off. Nothing but the network state, the trace and the returned
value changes (45_network.md R241, R242). -/
def Obligations.PumpSendsOldestFrame : Prop :=
  ∀ s : State, s.refused = none →
    ∃ t, exec .evPump s = .next t ∧
      (s.fw.initialized = false → t = { s with returned := none }) ∧
      (s.fw.initialized = true →
        t = { s with net := t.net, trace := t.trace, returned := none } ∧
        t.net.outputFrame = s.net.outputFrame ∧ t.net.localId = s.net.localId ∧
        t.net.outputQueue = s.net.outputQueue.drop 1 ∧
        t.net.outputByteCount = s.net.outputByteCount -
          BitVec.ofNat 16 ((s.net.outputQueue.head?.map List.length).getD 0) ∧
        ∃ sent, t.trace = s.trace ++ sent ∧
          (∀ o ∈ sent, ∃ i b, o = .portWrite i b) ∧
          ∀ i, sent.filterMap (fun o => match o with
              | .portWrite j b => if j = i then some b else none
              | _ => none) =
            if i < Config.board.numPorts ∧ (s.env.links.getD i ⟨false, []⟩).connected = true then
              s.net.outputQueue.head?.getD [] else [])

/-- A frame completed at a pump, on any port, whole or begun at an earlier pump, is appended to the inbound
queue, delimiters included, unless byte 1 is the local id, and then it is dropped; either way the port's
buffer is emptied. The other ports supply nothing and keep their buffers (45_network.md R240, R247). -/
def Obligations.InboundFrameIsDelivered : Prop :=
  ∀ s (i : Nat) (x : Byte) (p bytes : List Byte), s.refused = none → s.fw.initialized = true →
    s.net.inputFrame.wf → i < Config.board.numPorts → (0xC0 : Byte) ∉ x :: p → bytes ≠ [] →
    s.net.inputFrame.read i ++ bytes = [0xC0] ++ x :: p ++ [0xC0] →
    s.env.links.getD i ⟨false, []⟩ = ⟨true, bytes⟩ →
    (∀ j, j ≠ i → (s.env.links.getD j ⟨false, []⟩).connected = false ∨
      (s.env.links.getD j ⟨false, []⟩).bytes = []) →
    ∃ t, exec .evPump s = .next t ∧
      (∀ j, t.net.inputFrame.read j = if j = i then [] else s.net.inputFrame.read j) ∧
      t.net.muxedInput = s.net.muxedInput ++
        (if x.setWidth 16 = s.net.localId then [] else [0xC0] ++ x :: p ++ [0xC0])

/-- What a pump appends to the inbound queue is a sequence of whole frames, each with delimiters at both
ends, at least three bytes, and a byte 1 that is not the local id: no frame of the local id is ever
forwarded (45_network.md R244, which the spec marks as its own inference; 10_state.md R29). -/
def Obligations.PumpPreventsLoops : Prop :=
  ∀ s t : State, s.net.inputFrame.wf → (∀ i, BufferOk (s.net.inputFrame.read i)) →
    exec .evPump s = .next t →
    ∃ frames : List (List Byte), t.net.muxedInput = s.net.muxedInput ++ frames.flatten ∧
      ∀ f ∈ frames, FrameOk f ∧ 3 ≤ f.length ∧ (f.getD 1 0).setWidth 16 ≠ s.net.localId

/-- Every step keeps the framing invariant: buffers in progress are empty or one opening delimiter and
bytes that are no delimiter, and every queued frame has delimiters at both ends around at least one byte
(10_state.md R29, 45_network.md R231). -/
def Obligations.FramingKept : Prop :=
  ∀ s t, s.net.inputFrame.wf → Framed s.net → step s = .next t →
    Framed t.net ∧ t.net.inputFrame.wf

/-- Every step keeps byte conservation: `outputByteCount` is, modulo 2^16, the sum of the lengths of the
queued frames (45_network.md R246, which the spec marks as its own inference). -/
def Obligations.ByteConservationKept : Prop :=
  ∀ s t, Conserved s.net → step s = .next t → Conserved t.net

/-! ## The identity bridge and the output bank -/

/-- An identity read returns and caches the line at bit 12 with bit 8 set; an inspection read returns the
cache; a write drives the line with the inverse of bit 12 (46_identity_output.md R270, R271, R277). -/
def Obligations.IdentityReadsAndDrives : Prop :=
  ∀ s (data : Word), s.refused = none → s.fw.initialized = true →
    let v : Word := if s.env.idLine then 0x1100 else 0x0100
    exec .rdIdent s = .next { s with ident := { cache := v }, returned := some v } ∧
    exec .irdIdent s = .next { s with returned := some s.ident.cache } ∧
    exec (.wrIdent data) s =
      .next { s with trace := s.trace ++ [.identityLine (!data.getLsbD 12)], returned := none }

/-- An output write of tag `n` sets latch `n` to bits 15:12 of the data, leaves the other latches alone, and
emits, in line order, one edge for each line whose latch bit changes; line `4n + i` shows latch bit
0, 2, 3, 1 (46_identity_output.md R272, R273, R274, R275, R276). -/
def Obligations.OutputWriteEmitsEdges : Prop :=
  ∀ s (data : Word) (n : Fin 4), s.refused = none → s.fw.initialized = true →
    let i : Instr := match n with
      | 0 => .wrOut0 data
      | 1 => .wrOut1 data
      | 2 => .wrOut2 data
      | 3 => .wrOut3 data
    let tag : Fin 8 := Fin.ofNat 8 n.val
    let bit (v : BitVec 4) (k : Nat) : Bool := v.getLsbD (if k = 0 then 0 else if k = 1 then 2 else
      if k = 2 then 3 else 1)
    let new : BitVec 4 := BitVec.ofNat 4 (data.toNat / 2 ^ 12)
    ∃ t, exec i s = .next t ∧
      t = { s with out := t.out, trace := t.trace, returned := none } ∧
      (∀ k : Fin 8, t.out.latch[k] = if k = tag then new else s.out.latch[k]) ∧
      t.trace = s.trace ++
        ([0, 1, 2, 3].filter fun k => bit new k != bit s.out.latch[tag] k).map fun k =>
          CallOut.edge (Fin.ofNat 32 (4 * n.val + k)) (bit new k)

/-- The edges an operation emits are exactly the changes of the line values, unless it resets the block, as
a controller reset and the gate-reset write do: line `l` gets an edge iff its value changes, and the edge
carries the new value (46_identity_output.md R279, which the spec marks as its own inference). -/
def Obligations.EdgesAreTheLineChanges : Prop :=
  ∀ i s t, exec i s = .next t → i ≠ .evReset →
    (∀ data : Word, i = .wrFwStatus data → s.fw.initialized = true → s.fw.status.getLsbD 14 = true →
      data.getLsbD 14 = true) →
    ∃ new, t.trace = s.trace ++ new ∧
      ∀ l v, CallOut.edge l v ∈ new ↔ (t.out.line l = v ∧ s.out.line l ≠ v)

/-- Every step keeps latches 4 to 7 at zero, so lines 16 to 31 stay 0 (10_state.md R30,
46_identity_output.md R279). -/
def Obligations.UpperLatchesStayZero : Prop :=
  ∀ s t, UpperLatchesZero s.out → step s = .next t →
    UpperLatchesZero t.out ∧ ∀ l : Fin 32, 16 ≤ l.val → t.out.line l = false

/-! ## Reset and whole-machine invariants -/

/-- After power-on every field has the value of 70_reset_and_hazards.md R320. -/
def Obligations.PowerOnValues : Prop :=
  let s := State.reset
  s.fw.status = 0 ∧ s.fw.initialized = false ∧ s.fw.preInit = false ∧ s.fw.bitsReceived = 0 ∧
  s.fw.pendingByte = 0 ∧ (∀ k, s.fw.image.read k = 0) ∧
  (∀ k, s.store.words.read k = 0) ∧ s.store.writeAddr = 0 ∧ s.store.readAddr = 0 ∧
  s.store.lastValidRead = 0 ∧
  s.cipher.key1 = 0 ∧ s.cipher.key2 = 0 ∧ s.cipher.key3 = 0 ∧ s.cipher.variant = .default ∧
  s.mpeg.currentAddr = 0 ∧ s.mpeg.endAddr = 0 ∧ s.mpeg.ctrl = 0 ∧ s.mpeg.demand = false ∧
  s.mpeg.crcError = false ∧ s.mpeg.playing = false ∧ s.mpeg.frameCounter = 0 ∧
  s.mpeg.hasEnded = false ∧ s.mpeg.timerEnabled = false ∧ s.mpeg.pendingWord = 0 ∧
  s.mpeg.pendingByteCount = 0 ∧ s.mpeg.sampleCounter = 0 ∧ s.mpeg.sampleCounterLatched = 0 ∧
  s.ident.cache = 0 ∧
  (∀ i, s.net.inputFrame.read i = []) ∧ s.net.muxedInput = [] ∧ s.net.outputFrame = [] ∧
  s.net.outputQueue = [] ∧ s.net.localId = 0 ∧ s.net.outputByteCount = 0 ∧
  (∀ k : Fin 8, s.out.latch[k] = 0) ∧ s.trace = [] ∧ s.refused = none

/-- A controller reset puts every field of the block but the trace and the refusal mark at its power-on
value, with the gate open or closed, and emits nothing (70_reset_and_hazards.md R321). That the model's own
fields stay over the reset, but for the returned value, is the model's choice (log 17). -/
def Obligations.ControllerResetRestoresPowerOn : Prop :=
  ∀ s : State, s.refused = none →
    exec .evReset s = .next { State.reset with
      trace := s.trace, refused := s.refused, pending := s.pending, env := s.env, returned := none }

/-- The invariants below hold after power-on. -/
def Obligations.InvariantsHoldAtReset : Prop :=
  AddressesMasked State.reset ∧ TablesCanonical State.reset ∧ TablesBounded State.reset ∧
  GateCounted State.reset.fw ∧ Framed State.reset.net ∧ Conserved State.reset.net ∧
  UpperLatchesZero State.reset.out ∧ Inert State.reset

/-- Every step keeps the closed gate inert: while the gate is closed, components 2 to 7 hold their reset
values, but for demand, crc-error and playing (70_reset_and_hazards.md R325, which the spec marks as its own
inference). -/
def Obligations.ClosedGateStaysInert : Prop :=
  ∀ s t, (s.fw.initialized = false → Inert s) → step s = .next t →
    (t.fw.initialized = false → Inert t)

/-- Every step keeps all four addresses masked by M, and the store, the image and the port buffers in
canonical form with nothing outside the store's length or the ports (10_state.md R17, R22, R28;
20_memory.md R42; the sparse form is the model's, log 8, log 9, log 10). -/
def Obligations.AddressesAndTablesKept : Prop :=
  ∀ s t, AddressesMasked s → step s = .next t →
    AddressesMasked t ∧
      (TablesCanonical s → TablesBounded s → TablesCanonical t ∧ TablesBounded t)

/-! ## The pump over every port -/

/-- What a pump receives, over all ports: the inbound queue grows by the frames completed on each connected
port, ports in ascending order and each port's frames in the order completed, whole, without those whose
byte 1 is the local id; and each connected port keeps the buffer the framer leaves, while a port that is not
connected is not read and keeps its own (45_network.md R240). -/
def Obligations.PumpFramesEveryPort : Prop :=
  ∀ s : State, s.refused = none → s.fw.initialized = true → s.net.inputFrame.wf →
    let link (i : Nat) : Link := s.env.links.getD i ⟨false, []⟩
    let framed (i : Nat) := framesOf (s.net.inputFrame.read i) (link i).bytes
    ∃ t, exec .evPump s = .next t ∧
      t.net.muxedInput = s.net.muxedInput ++
        (((List.range Config.board.numPorts).filter fun i => (link i).connected).flatMap fun i =>
          ((framed i).1.filter fun f => decide ((f.getD 1 0).setWidth 16 ≠ s.net.localId)).flatten) ∧
      ∀ i, t.net.inputFrame.read i =
        if i < Config.board.numPorts ∧ (link i).connected = true then (framed i).2
        else s.net.inputFrame.read i
end

