-- ==== Sys2Proof/Laws/Cipher.lean ====
section
/-! SUPPORT. What each piece of the cipher does to one bit. -/

namespace Sys2Proof.Machine

theorem getLsbD_boolAt (b : Bool) (n i : Nat) : (boolAt b n).getLsbD i = (decide (i < 16 ∧ i = n) && b) := by
  rw [boolAt, BitVec.getLsbD_shiftLeft, BitVec.getLsbD_setWidth]
  by_cases hi : i < 16
  · by_cases hn : i < n
    · simp [hi, hn, Nat.ne_of_lt hn]
    · by_cases he : i = n
      · subst he; cases b <;> simp [hi]
      · have : i - n ≠ 0 := by omega
        cases b <;> simp [hi, he, hn, this]
  · simp [hi]

/-- One conditional pair swap, bit by bit (43_cipher.md R151). -/
theorem getLsbD_swapIf (p : Bool) (v : Word) {j : Nat} (i : Nat) (hj : j < 8) :
    (if p then swapPair v j else v).getLsbD i =
      if p = true ∧ i = 2 * j then v.getLsbD (2 * j + 1)
      else if p = true ∧ i = 2 * j + 1 then v.getLsbD (2 * j) else v.getLsbD i := by
  cases p
  · simp
  simp only [if_true, true_and, swapPair, BitVec.getLsbD_or, BitVec.getLsbD_and, BitVec.getLsbD_not,
    getLsbD_boolAt]
  have h3 : (((3 : Word) <<< (2 * j)).getLsbD i) = decide (i < 16 ∧ (i = 2 * j ∨ i = 2 * j + 1)) := by
    rw [BitVec.getLsbD_shiftLeft]
    by_cases h : i < 2 * j
    · simp [h]; omega
    by_cases hi : i < 16
    · obtain ⟨k, rfl⟩ := Nat.exists_eq_add_of_le (Nat.le_of_not_lt h)
      have hk : k < 16 := by omega
      have h3 : (3#16).getLsbD k = decide (k = 0 ∨ k = 1) := by
        clear hi h; interval_cases k <;> decide
      simp [hi, h3]
    · simp [hi]
  rw [h3]
  by_cases h1 : i = 2 * j
  · subst h1; simp; omega
  by_cases h2 : i = 2 * j + 1
  · subst h2; simp; omega
  by_cases hi : i < 16
  · simp [h1, h2, hi]
  · simp [h1, h2, hi, BitVec.getLsbD_of_ge v i (by omega)]

/-- A sequence of conditional pair swaps leaves the bits of every other pair alone. -/
theorem getLsbD_swaps_other (m : Word) (i : Nat) (ts : List (Nat × Nat))
    (h : ∀ p ∈ ts, p.1 < 8 ∧ i ≠ 2 * p.1 ∧ i ≠ 2 * p.1 + 1) (v : Word) :
    (ts.foldl (fun v p => if m.getLsbD p.2 then swapPair v p.1 else v) v).getLsbD i = v.getLsbD i := by
  induction ts generalizing v with
  | nil => rfl
  | cons p ts ih =>
    obtain ⟨hp, h1, h2⟩ := h p List.mem_cons_self
    rw [List.foldl_cons, ih fun q hq => h q (List.mem_cons_of_mem _ hq), getLsbD_swapIf _ _ _ hp,
      if_neg fun e => h1 e.2, if_neg fun e => h2 e.2]

/-- A sequence of conditional swaps of different pairs, on the bits of one of them. -/
theorem getLsbD_swaps (m : Word) (j t : Nat) (ts : List (Nat × Nat)) (hn : (ts.map Prod.fst).Nodup)
    (hlt : ∀ p ∈ ts, p.1 < 8) (hm : (j, t) ∈ ts) (v : Word) :
    let r := ts.foldl (fun v p => if m.getLsbD p.2 then swapPair v p.1 else v) v
    r.getLsbD (2 * j) = (if m.getLsbD t then v.getLsbD (2 * j + 1) else v.getLsbD (2 * j)) ∧
    r.getLsbD (2 * j + 1) = (if m.getLsbD t then v.getLsbD (2 * j) else v.getLsbD (2 * j + 1)) := by
  induction ts generalizing v with
  | nil => cases hm
  | cons p ts ih =>
    rw [List.map_cons, List.nodup_cons] at hn
    have hp := hlt p List.mem_cons_self
    have hts := fun q hq => hlt q (List.mem_cons_of_mem _ hq)
    rcases List.mem_cons.1 hm with rfl | hm
    · have hne : ∀ q ∈ ts, q.1 ≠ j := fun q hq e => by
        have hq' := List.mem_map_of_mem (f := Prod.fst) hq
        rw [e] at hq'
        exact hn.1 hq'
      have h0 := getLsbD_swaps_other m (2 * j) ts
        (fun q hq => ⟨hts q hq, by have := hne q hq; omega, by omega⟩)
      have h1 := getLsbD_swaps_other m (2 * j + 1) ts
        (fun q hq => ⟨hts q hq, by omega, by have := hne q hq; omega⟩)
      simp only [List.foldl_cons, h0, h1, getLsbD_swapIf _ _ _ hp]
      cases m.getLsbD t <;> simp
    · have hj : p.1 ≠ j := fun e => hn.1 (e ▸ List.mem_map_of_mem (f := Prod.fst) hm)
      have h0 : (if m.getLsbD p.2 then swapPair v p.1 else v).getLsbD (2 * j) = v.getLsbD (2 * j) := by
        rw [getLsbD_swapIf _ _ _ hp, if_neg fun e => by omega, if_neg fun e => by omega]
      have h1 : (if m.getLsbD p.2 then swapPair v p.1 else v).getLsbD (2 * j + 1) =
          v.getLsbD (2 * j + 1) := by
        rw [getLsbD_swapIf _ _ _ hp, if_neg fun e => by omega, if_neg fun e => by omega]
      have h := ih hn.2 hts hm (if m.getLsbD p.2 then swapPair v p.1 else v)
      dsimp only at h
      rw [h0, h1] at h
      exact h

/-- The pair swap, bit by bit: pair `j` is exchanged where mask bit `T[j]` is set (43_cipher.md R151). -/
theorem getLsbD_pairSwap (w m : Word) {j t : Nat} (h : (j, t) ∈ pairTable) :
    (pairSwap w m).getLsbD (2 * j) = (if m.getLsbD t then w.getLsbD (2 * j + 1) else w.getLsbD (2 * j)) ∧
    (pairSwap w m).getLsbD (2 * j + 1) =
      (if m.getLsbD t then w.getLsbD (2 * j) else w.getLsbD (2 * j + 1)) :=
  getLsbD_swaps m j t pairTable (by decide) (by decide) h w

/-- A word assembled from selected bits, bit by bit (43_cipher.md R152). -/
theorem getLsbD_assembled (m : Word) (i : Nat) (ts : List (Nat × Nat)) (v : Word) :
    (ts.foldl (fun acc p => acc ||| boolAt (m.getLsbD p.2) p.1) v).getLsbD i =
      (v.getLsbD i || decide (i < 16) && ts.any fun p => decide (i = p.1) && m.getLsbD p.2) := by
  induction ts generalizing v with
  | nil => simp
  | cons p ts ih =>
    rw [List.foldl_cons, ih, BitVec.getLsbD_or, getLsbD_boolAt, List.any_cons]
    cases v.getLsbD i <;> cases m.getLsbD p.2 <;> by_cases h : i < 16 <;> simp [h]

/-- The mask XOR, bit by bit (43_cipher.md R152). -/
theorem getLsbD_maskXor (m : Word) {i : Nat} (hi : i < 16) :
    (maskXor m).getLsbD i = maskTable.any fun p => decide (i = p.1) && m.getLsbD p.2 := by
  rw [maskXor, getLsbD_assembled]
  simp [hi]

/-- The counter mask, bit by bit (43_cipher.md R153). -/
theorem getLsbD_counterMask (k : Byte) {i : Nat} (hi : i < 16) :
    (counterMask k).getLsbD i = k.getLsbD ([7, 0, 6, 1, 5, 2, 4, 3, 3, 4, 2, 5, 1, 6, 0, 7].getD i 0) := by
  revert k
  interval_cases i <;> decide

end Sys2Proof.Machine
end

