-- ==== Sys2Proof/Laws/Encoding.lean ====
section
/-! SUPPORT. The fields of a packed transaction word, and the selector numbers. -/

namespace Sys2Proof

theorem getLsbD_packTxn (k : BitVec 2) (s : BitVec 6) (d : Word) (i : Nat) :
    (packTxn k s d).getLsbD i =
      if i < 16 then d.getLsbD i else if i < 22 then s.getLsbD (i - 16) else k.getLsbD (i - 22) := by
  rw [packTxn, BitVec.getLsbD_append, BitVec.getLsbD_append]
  have h : i - 16 - 6 = i - 22 := by omega
  rw [h]
  split
  · rfl
  · by_cases h2 : i < 22
    · rw [if_pos h2, if_pos (by omega)]
    · rw [if_neg h2, if_neg (by omega)]

theorem kindOf_packTxn (k : BitVec 2) (s : BitVec 6) (d : Word) : kindOf (packTxn k s d) = k := by
  apply BitVec.eq_of_getLsbD_eq; intro i hi
  rw [kindOf, BitVec.getLsbD_extractLsb', getLsbD_packTxn, if_neg (by omega), if_neg (by omega)]
  simp only [hi, decide_true, Bool.true_and, Nat.add_sub_cancel_left]

theorem selOf_packTxn (k : BitVec 2) (s : BitVec 6) (d : Word) : selOf (packTxn k s d) = s := by
  apply BitVec.eq_of_getLsbD_eq; intro i hi
  rw [selOf, BitVec.getLsbD_extractLsb', getLsbD_packTxn, if_neg (by omega), if_pos (by omega)]
  simp only [hi, decide_true, Bool.true_and, Nat.add_sub_cancel_left]

theorem dataOf_packTxn (k : BitVec 2) (s : BitVec 6) (d : Word) : dataOf (packTxn k s d) = d := by
  apply BitVec.eq_of_getLsbD_eq; intro i hi
  rw [dataOf, BitVec.getLsbD_extractLsb', getLsbD_packTxn, if_pos (by omega)]
  simp only [hi, decide_true, Bool.true_and, Nat.zero_add]

theorem selectorOf_number (sel : Selector) : selectorOf (selectorNumber sel) = some sel := by
  cases sel <;> decide

end Sys2Proof
end

