-- ==== Sys2Proof/Laws/Memory.lean ====
section
/-! SUPPORT. The laws of the sparse tables: read after write, and every operation keeps the canonical
form, in which equal contents are equal data. -/

namespace Sys2Proof.Machine

section
variable {α : Type} (d : α)

theorem sparseRead_of_forall_lt (m : List (Nat × α)) (a : Nat) (h : ∀ p ∈ m, a < p.1) :
    sparseRead d m a = d := by
  induction m with
  | nil => rfl
  | cons p m ih =>
    have := h p List.mem_cons_self
    rw [sparseRead, if_neg (by omega), ih fun q hq => h q (List.mem_cons_of_mem _ hq)]

variable [DecidableEq α]

/-- Reading elsewhere is not affected by a write, whatever form the table is in. -/
theorem sparseRead_write_other (m : List (Nat × α)) (a b : Nat) (v : α) (h : b ≠ a) :
    sparseRead d (sparseWrite d m a v) b = sparseRead d m b := by
  have h' : ¬ a = b := fun e => h e.symm
  induction m with
  | nil => simp only [sparseWrite]; split <;> simp [sparseRead, h']
  | cons p m ih =>
    obtain ⟨k, w⟩ := p
    simp only [sparseWrite]
    by_cases h1 : a < k
    · rw [if_pos h1]; split <;> simp [sparseRead, h']
    · rw [if_neg h1]
      by_cases h2 : a = k
      · subst h2; rw [if_pos rfl]; split <;> simp [sparseRead, h']
      · rw [if_neg h2]; simp [sparseRead, ih]

theorem mem_sparseWrite {m : List (Nat × α)} {a : Nat} {v : α} {p : Nat × α}
    (h : p ∈ sparseWrite d m a v) : p ∈ m ∨ (p = (a, v) ∧ v ≠ d) := by
  induction m with
  | nil =>
    simp only [sparseWrite] at h
    split at h
    · simp at h
    · exact .inr ⟨by simpa using h, ‹_›⟩
  | cons q m ih =>
    obtain ⟨k, w⟩ := q
    simp only [sparseWrite] at h
    by_cases h1 : a < k
    · rw [if_pos h1] at h
      split at h
      · exact .inl h
      · rcases List.mem_cons.1 h with h | h
        · exact .inr ⟨h, ‹_›⟩
        · exact .inl h
    · rw [if_neg h1] at h
      by_cases h2 : a = k
      · rw [if_pos h2] at h
        split at h
        · exact .inl (List.mem_cons_of_mem _ h)
        · rcases List.mem_cons.1 h with h | h
          · exact .inr ⟨h, ‹_›⟩
          · exact .inl (List.mem_cons_of_mem _ h)
      · rw [if_neg h2] at h
        rcases List.mem_cons.1 h with h | h
        · exact .inl (h ▸ List.mem_cons_self)
        · rcases ih h with h | h
          · exact .inl (List.mem_cons_of_mem _ h)
          · exact .inr h

/-- A write keeps the canonical form. -/
theorem sparseWf_write {m : List (Nat × α)} (h : sparseWf d m) (a : Nat) (v : α) :
    sparseWf d (sparseWrite d m a v) := by
  refine ⟨?_, fun p hp => ?_⟩
  · have hm := h.1
    clear h
    induction m with
    | nil => simp only [sparseWrite]; split <;> simp
    | cons q m ih =>
      obtain ⟨k, w⟩ := q
      rw [List.pairwise_cons] at hm
      simp only [sparseWrite]
      by_cases h1 : a < k
      · rw [if_pos h1]
        split
        · exact List.pairwise_cons.2 hm
        · refine List.pairwise_cons.2 ⟨fun p hp => ?_, List.pairwise_cons.2 hm⟩
          rcases List.mem_cons.1 hp with hp | hp
          · rw [hp]; exact h1
          · exact Nat.lt_trans h1 (hm.1 p hp)
      · rw [if_neg h1]
        by_cases h2 : a = k
        · rw [if_pos h2]
          split
          · exact hm.2
          · exact List.pairwise_cons.2 ⟨fun p hp => h2 ▸ hm.1 p hp, hm.2⟩
        · rw [if_neg h2]
          refine List.pairwise_cons.2 ⟨fun p hp => ?_, ih hm.2⟩
          rcases mem_sparseWrite d hp with hp | ⟨rfl, _⟩
          · exact hm.1 p hp
          · exact Nat.lt_of_le_of_ne (Nat.le_of_not_lt h1) (fun e => h2 e.symm)
  · rcases mem_sparseWrite d hp with hp | ⟨rfl, hv⟩
    · exact h.2 p hp
    · exact hv

/-- Reading back gives what was written, in a table of canonical form. -/
theorem sparseRead_write_same {m : List (Nat × α)} (h : sparseWf d m) (a : Nat) (v : α) :
    sparseRead d (sparseWrite d m a v) a = v := by
  have hm := h.1
  clear h
  induction m with
  | nil => simp only [sparseWrite]; split <;> simp_all [sparseRead]
  | cons q m ih =>
    obtain ⟨k, w⟩ := q
    rw [List.pairwise_cons] at hm
    simp only [sparseWrite]
    by_cases h1 : a < k
    · rw [if_pos h1]
      split
      · rename_i hv
        rw [hv]
        refine sparseRead_of_forall_lt d _ _ fun p hp => ?_
        rcases List.mem_cons.1 hp with hp | hp
        · rw [hp]; exact h1
        · exact Nat.lt_trans h1 (hm.1 p hp)
      · simp [sparseRead]
    · rw [if_neg h1]
      by_cases h2 : a = k
      · rw [if_pos h2]
        split
        · rename_i hv
          rw [hv]
          exact sparseRead_of_forall_lt d _ _ fun p hp => h2 ▸ hm.1 p hp
        · simp [sparseRead]
      · rw [if_neg h2, sparseRead, if_neg fun e => h2 e.symm, ih hm.2]

omit [DecidableEq α] in
/-- Tables of canonical form with the same contents are equal. -/
theorem sparse_ext {m n : List (Nat × α)} (hm : sparseWf d m) (hn : sparseWf d n)
    (h : ∀ a, sparseRead d m a = sparseRead d n a) : m = n := by
  induction m generalizing n with
  | nil =>
    cases n with
    | nil => rfl
    | cons q n =>
      have := h q.1
      simp only [sparseRead, if_true] at this
      exact absurd this.symm (hn.2 q List.mem_cons_self)
  | cons p m ih =>
    have hm1 := List.pairwise_cons.1 hm.1
    have hlow : sparseRead d m p.1 = d := sparseRead_of_forall_lt d _ _ hm1.1
    cases n with
    | nil =>
      have := h p.1
      simp only [sparseRead, if_true] at this
      exact absurd this (hm.2 p List.mem_cons_self)
    | cons q n =>
      have hn1 := List.pairwise_cons.1 hn.1
      have hlow' : sparseRead d n q.1 = d := sparseRead_of_forall_lt d _ _ hn1.1
      have hp := h p.1
      have hq := h q.1
      simp only [sparseRead, if_true] at hp hq
      have hk : p.1 = q.1 := by
        rcases Nat.lt_trichotomy p.1 q.1 with hlt | heq | hgt
        · rw [if_neg (by omega), sparseRead_of_forall_lt d n p.1
            fun r hr => Nat.lt_trans hlt (hn1.1 r hr)] at hp
          exact absurd hp (hm.2 p List.mem_cons_self)
        · exact heq
        · rw [if_neg (by omega), sparseRead_of_forall_lt d m q.1
            fun r hr => Nat.lt_trans hgt (hm1.1 r hr)] at hq
          exact absurd hq.symm (hn.2 q List.mem_cons_self)
      rw [if_pos hk.symm] at hp
      have htail : m = n := by
        refine ih ⟨hm1.2, fun r hr => hm.2 r (List.mem_cons_of_mem _ hr)⟩
          ⟨hn1.2, fun r hr => hn.2 r (List.mem_cons_of_mem _ hr)⟩ fun a => ?_
        by_cases ha : p.1 = a
        · rw [← ha, hlow, hk, hlow']
        · have := h a
          simpa only [sparseRead, if_neg ha, if_neg (hk ▸ ha : ¬ q.1 = a)] using this
      rw [htail, Prod.ext hk hp]

end

theorem Memory.read_write_same {m : Memory} (h : m.wf) (a : Nat) (v : Byte) : (m.write a v).read a = v :=
  sparseRead_write_same _ h a v

theorem Memory.read_write_other (m : Memory) {a b : Nat} (v : Byte) (h : b ≠ a) :
    (m.write a v).read b = m.read b :=
  sparseRead_write_other _ m a b v h

theorem Memory.wf_write {m : Memory} (h : m.wf) (a : Nat) (v : Byte) : (m.write a v).wf :=
  sparseWf_write _ h a v

theorem Memory.wf_writeWord {m : Memory} (h : m.wf) (a : Nat) (v : Word) : (m.writeWord a v).wf :=
  Memory.wf_write (Memory.wf_write h _ _) _ _

/-- A word write leaves every byte but its two alone. -/
theorem Memory.read_writeWord_other (m : Memory) {a b : Nat} (v : Word) (h : b ≠ a) (h' : b ≠ a + 1) :
    (m.writeWord a v).read b = m.read b := by
  rw [writeWord, read_write_other _ _ h', read_write_other _ _ h]

/-- A word reads back as written. -/
theorem Memory.readWord_writeWord_same {m : Memory} (h : m.wf) (a : Nat) (v : Word) :
    (m.writeWord a v).readWord a = v := by
  rw [readWord, writeWord, read_write_same (wf_write h _ _), read_write_other _ _ (by omega),
    read_write_same h]
  apply BitVec.eq_of_getLsbD_eq
  intro i hi
  rw [BitVec.getLsbD_append, BitVec.getLsbD_extractLsb', BitVec.getLsbD_extractLsb']
  by_cases h8 : i < 8
  · simp [h8]
  · rw [if_neg h8]; simp [show i - 8 < 8 by omega, show 8 + (i - 8) = i by omega]

/-- A word that shares no byte with the written one reads as before. -/
theorem Memory.readWord_writeWord_other (m : Memory) {a b : Nat} (v : Word) (h : b + 1 < a ∨ a + 1 < b) :
    (m.writeWord a v).readWord b = m.readWord b := by
  rw [readWord, readWord, read_writeWord_other _ _ (by omega) (by omega),
    read_writeWord_other _ _ (by omega) (by omega)]

/-- The store's raw write keeps the canonical form. -/
theorem memWrite_wf {m : Memory} (c : Config) (h : m.wf) (a : Addr) (v : Word) : (memWrite c m a v).wf := by
  unfold memWrite
  split
  · exact Memory.wf_writeWord h _ _
  · exact h

theorem PortTable.read_write_same {t : PortTable} (h : t.wf) (i : Nat) (b : List Byte) :
    (t.write i b).read i = b :=
  sparseRead_write_same _ h i b

theorem PortTable.read_write_other (t : PortTable) {i j : Nat} (b : List Byte) (h : j ≠ i) :
    (t.write i b).read j = t.read j :=
  sparseRead_write_other _ t i j b h

theorem PortTable.wf_write {t : PortTable} (h : t.wf) (i : Nat) (b : List Byte) : (t.write i b).wf :=
  sparseWf_write _ h i b

/-- The tables of the machine after reset have the canonical form. -/
theorem reset_tables_wf :
    State.reset.store.words.wf ∧ State.reset.fw.image.wf ∧ State.reset.net.inputFrame.wf := by decide

end Sys2Proof.Machine
end

