-- ==== Sys2Proof/Laws/State.lean ====
section
/-! SUPPORT. One lemma for each field under each state update, so that no later proof unfolds one. -/

namespace Sys2Proof.Machine

@[simp] theorem State.answer_fw (s : State) (v : Option Word) : (s.answer v).fw = s.fw := rfl
@[simp] theorem State.answer_store (s : State) (v : Option Word) : (s.answer v).store = s.store := rfl
@[simp] theorem State.answer_cipher (s : State) (v : Option Word) : (s.answer v).cipher = s.cipher := rfl
@[simp] theorem State.answer_mpeg (s : State) (v : Option Word) : (s.answer v).mpeg = s.mpeg := rfl
@[simp] theorem State.answer_ident (s : State) (v : Option Word) : (s.answer v).ident = s.ident := rfl
@[simp] theorem State.answer_net (s : State) (v : Option Word) : (s.answer v).net = s.net := rfl
@[simp] theorem State.answer_out (s : State) (v : Option Word) : (s.answer v).out = s.out := rfl
@[simp] theorem State.answer_trace (s : State) (v : Option Word) : (s.answer v).trace = s.trace := rfl
@[simp] theorem State.answer_refused (s : State) (v : Option Word) : (s.answer v).refused = s.refused := rfl
@[simp] theorem State.answer_pending (s : State) (v : Option Word) : (s.answer v).pending = s.pending := rfl
@[simp] theorem State.answer_env (s : State) (v : Option Word) : (s.answer v).env = s.env := rfl
@[simp] theorem State.answer_returned (s : State) (v : Option Word) : (s.answer v).returned = v := rfl

@[simp] theorem State.emit_fw (s : State) (es : List CallOut) : (s.emit es).fw = s.fw := rfl
@[simp] theorem State.emit_store (s : State) (es : List CallOut) : (s.emit es).store = s.store := rfl
@[simp] theorem State.emit_cipher (s : State) (es : List CallOut) : (s.emit es).cipher = s.cipher := rfl
@[simp] theorem State.emit_mpeg (s : State) (es : List CallOut) : (s.emit es).mpeg = s.mpeg := rfl
@[simp] theorem State.emit_ident (s : State) (es : List CallOut) : (s.emit es).ident = s.ident := rfl
@[simp] theorem State.emit_net (s : State) (es : List CallOut) : (s.emit es).net = s.net := rfl
@[simp] theorem State.emit_out (s : State) (es : List CallOut) : (s.emit es).out = s.out := rfl
@[simp] theorem State.emit_trace (s : State) (es : List CallOut) : (s.emit es).trace = s.trace ++ es := rfl
@[simp] theorem State.emit_refused (s : State) (es : List CallOut) : (s.emit es).refused = s.refused := rfl
@[simp] theorem State.emit_pending (s : State) (es : List CallOut) : (s.emit es).pending = s.pending := rfl
@[simp] theorem State.emit_env (s : State) (es : List CallOut) : (s.emit es).env = s.env := rfl
@[simp] theorem State.emit_returned (s : State) (es : List CallOut) : (s.emit es).returned = s.returned := rfl

@[simp] theorem State.refuse_fw (s : State) (r : Reason) : (s.refuse r).fw = s.fw := rfl
@[simp] theorem State.refuse_store (s : State) (r : Reason) : (s.refuse r).store = s.store := rfl
@[simp] theorem State.refuse_cipher (s : State) (r : Reason) : (s.refuse r).cipher = s.cipher := rfl
@[simp] theorem State.refuse_mpeg (s : State) (r : Reason) : (s.refuse r).mpeg = s.mpeg := rfl
@[simp] theorem State.refuse_ident (s : State) (r : Reason) : (s.refuse r).ident = s.ident := rfl
@[simp] theorem State.refuse_net (s : State) (r : Reason) : (s.refuse r).net = s.net := rfl
@[simp] theorem State.refuse_out (s : State) (r : Reason) : (s.refuse r).out = s.out := rfl
@[simp] theorem State.refuse_trace (s : State) (r : Reason) : (s.refuse r).trace = s.trace := rfl
@[simp] theorem State.refuse_refused (s : State) (r : Reason) : (s.refuse r).refused = some r := rfl
@[simp] theorem State.refuse_pending (s : State) (r : Reason) : (s.refuse r).pending = s.pending := rfl
@[simp] theorem State.refuse_env (s : State) (r : Reason) : (s.refuse r).env = s.env := rfl
@[simp] theorem State.refuse_returned (s : State) (r : Reason) : (s.refuse r).returned = none := rfl

@[simp] theorem State.rezero_fw (s : State) : (s.rezero).fw = s.fw := rfl
@[simp] theorem State.rezero_store (s : State) : (s.rezero).store = AddressWindow.reset := rfl
@[simp] theorem State.rezero_cipher (s : State) : (s.rezero).cipher = CipherState.reset := rfl
@[simp] theorem State.rezero_mpeg (s : State) : (s.rezero).mpeg = MpegChannel.reset := rfl
@[simp] theorem State.rezero_ident (s : State) : (s.rezero).ident = IdentityBridge.reset := rfl
@[simp] theorem State.rezero_net (s : State) : (s.rezero).net = NetState.reset := rfl
@[simp] theorem State.rezero_out (s : State) : (s.rezero).out = OutputBank.reset := rfl
@[simp] theorem State.rezero_trace (s : State) : (s.rezero).trace = s.trace := rfl
@[simp] theorem State.rezero_refused (s : State) : (s.rezero).refused = s.refused := rfl
@[simp] theorem State.rezero_pending (s : State) : (s.rezero).pending = s.pending := rfl
@[simp] theorem State.rezero_env (s : State) : (s.rezero).env = s.env := rfl
@[simp] theorem State.rezero_returned (s : State) : (s.rezero).returned = s.returned := rfl

@[simp] theorem State.gateReset_fw (s : State) : (s.gateReset).fw = { FirmwareLoad.reset with status := s.fw.status } := rfl
@[simp] theorem State.gateReset_store (s : State) : (s.gateReset).store = AddressWindow.reset := rfl
@[simp] theorem State.gateReset_cipher (s : State) : (s.gateReset).cipher = CipherState.reset := rfl
@[simp] theorem State.gateReset_mpeg (s : State) : (s.gateReset).mpeg = MpegChannel.reset := rfl
@[simp] theorem State.gateReset_ident (s : State) : (s.gateReset).ident = IdentityBridge.reset := rfl
@[simp] theorem State.gateReset_net (s : State) : (s.gateReset).net = NetState.reset := rfl
@[simp] theorem State.gateReset_out (s : State) : (s.gateReset).out = OutputBank.reset := rfl
@[simp] theorem State.gateReset_trace (s : State) : (s.gateReset).trace = s.trace := rfl
@[simp] theorem State.gateReset_refused (s : State) : (s.gateReset).refused = s.refused := rfl
@[simp] theorem State.gateReset_pending (s : State) : (s.gateReset).pending = s.pending := rfl
@[simp] theorem State.gateReset_env (s : State) : (s.gateReset).env = s.env := rfl
@[simp] theorem State.gateReset_returned (s : State) : (s.gateReset).returned = s.returned := rfl

@[simp] theorem State.controllerReset_fw (s : State) : (s.controllerReset).fw = FirmwareLoad.reset := rfl
@[simp] theorem State.controllerReset_store (s : State) : (s.controllerReset).store = AddressWindow.reset := rfl
@[simp] theorem State.controllerReset_cipher (s : State) : (s.controllerReset).cipher = CipherState.reset := rfl
@[simp] theorem State.controllerReset_mpeg (s : State) : (s.controllerReset).mpeg = MpegChannel.reset := rfl
@[simp] theorem State.controllerReset_ident (s : State) : (s.controllerReset).ident = IdentityBridge.reset := rfl
@[simp] theorem State.controllerReset_net (s : State) : (s.controllerReset).net = NetState.reset := rfl
@[simp] theorem State.controllerReset_out (s : State) : (s.controllerReset).out = OutputBank.reset := rfl
@[simp] theorem State.controllerReset_trace (s : State) : (s.controllerReset).trace = s.trace := rfl
@[simp] theorem State.controllerReset_refused (s : State) : (s.controllerReset).refused = s.refused := rfl
@[simp] theorem State.controllerReset_pending (s : State) : (s.controllerReset).pending = s.pending := rfl
@[simp] theorem State.controllerReset_env (s : State) : (s.controllerReset).env = s.env := rfl
@[simp] theorem State.controllerReset_returned (s : State) : (s.controllerReset).returned = s.returned := rfl

@[simp] theorem State.withMpeg_fw (s : State) (m : MpegChannel) : (s.withMpeg m).fw = s.fw := rfl
@[simp] theorem State.withMpeg_store (s : State) (m : MpegChannel) : (s.withMpeg m).store = s.store := rfl
@[simp] theorem State.withMpeg_cipher (s : State) (m : MpegChannel) : (s.withMpeg m).cipher = s.cipher := rfl
@[simp] theorem State.withMpeg_mpeg (s : State) (m : MpegChannel) : (s.withMpeg m).mpeg = m := rfl
@[simp] theorem State.withMpeg_ident (s : State) (m : MpegChannel) : (s.withMpeg m).ident = s.ident := rfl
@[simp] theorem State.withMpeg_net (s : State) (m : MpegChannel) : (s.withMpeg m).net = s.net := rfl
@[simp] theorem State.withMpeg_out (s : State) (m : MpegChannel) : (s.withMpeg m).out = s.out := rfl
@[simp] theorem State.withMpeg_trace (s : State) (m : MpegChannel) : (s.withMpeg m).trace = s.trace := rfl
@[simp] theorem State.withMpeg_refused (s : State) (m : MpegChannel) : (s.withMpeg m).refused = s.refused := rfl
@[simp] theorem State.withMpeg_pending (s : State) (m : MpegChannel) : (s.withMpeg m).pending = s.pending := rfl
@[simp] theorem State.withMpeg_env (s : State) (m : MpegChannel) : (s.withMpeg m).env = s.env := rfl
@[simp] theorem State.withMpeg_returned (s : State) (m : MpegChannel) : (s.withMpeg m).returned = s.returned := rfl

@[simp] theorem State.setWriteAddr_fw (s : State) (a : Addr) : (s.setWriteAddr a).fw = s.fw := rfl
@[simp] theorem State.setWriteAddr_store (s : State) (a : Addr) : (s.setWriteAddr a).store = { s.store with writeAddr := a } := rfl
@[simp] theorem State.setWriteAddr_cipher (s : State) (a : Addr) : (s.setWriteAddr a).cipher = s.cipher := rfl
@[simp] theorem State.setWriteAddr_mpeg (s : State) (a : Addr) : (s.setWriteAddr a).mpeg = s.mpeg := rfl
@[simp] theorem State.setWriteAddr_ident (s : State) (a : Addr) : (s.setWriteAddr a).ident = s.ident := rfl
@[simp] theorem State.setWriteAddr_net (s : State) (a : Addr) : (s.setWriteAddr a).net = s.net := rfl
@[simp] theorem State.setWriteAddr_out (s : State) (a : Addr) : (s.setWriteAddr a).out = s.out := rfl
@[simp] theorem State.setWriteAddr_trace (s : State) (a : Addr) : (s.setWriteAddr a).trace = s.trace := rfl
@[simp] theorem State.setWriteAddr_refused (s : State) (a : Addr) : (s.setWriteAddr a).refused = s.refused := rfl
@[simp] theorem State.setWriteAddr_pending (s : State) (a : Addr) : (s.setWriteAddr a).pending = s.pending := rfl
@[simp] theorem State.setWriteAddr_env (s : State) (a : Addr) : (s.setWriteAddr a).env = s.env := rfl
@[simp] theorem State.setWriteAddr_returned (s : State) (a : Addr) : (s.setWriteAddr a).returned = s.returned := rfl

@[simp] theorem State.setReadAddr_fw (s : State) (c : Config) (a : Addr) : (s.setReadAddr c a).fw = s.fw := rfl
@[simp] theorem State.setReadAddr_store (s : State) (c : Config) (a : Addr) : (s.setReadAddr c a).store = { s.store with readAddr := a }.refreshLVR c := rfl
@[simp] theorem State.setReadAddr_cipher (s : State) (c : Config) (a : Addr) : (s.setReadAddr c a).cipher = s.cipher := rfl
@[simp] theorem State.setReadAddr_mpeg (s : State) (c : Config) (a : Addr) : (s.setReadAddr c a).mpeg = s.mpeg := rfl
@[simp] theorem State.setReadAddr_ident (s : State) (c : Config) (a : Addr) : (s.setReadAddr c a).ident = s.ident := rfl
@[simp] theorem State.setReadAddr_net (s : State) (c : Config) (a : Addr) : (s.setReadAddr c a).net = s.net := rfl
@[simp] theorem State.setReadAddr_out (s : State) (c : Config) (a : Addr) : (s.setReadAddr c a).out = s.out := rfl
@[simp] theorem State.setReadAddr_trace (s : State) (c : Config) (a : Addr) : (s.setReadAddr c a).trace = s.trace := rfl
@[simp] theorem State.setReadAddr_refused (s : State) (c : Config) (a : Addr) : (s.setReadAddr c a).refused = s.refused := rfl
@[simp] theorem State.setReadAddr_pending (s : State) (c : Config) (a : Addr) : (s.setReadAddr c a).pending = s.pending := rfl
@[simp] theorem State.setReadAddr_env (s : State) (c : Config) (a : Addr) : (s.setReadAddr c a).env = s.env := rfl
@[simp] theorem State.setReadAddr_returned (s : State) (c : Config) (a : Addr) : (s.setReadAddr c a).returned = s.returned := rfl

@[simp] theorem State.take_fw (s : State) (e : Env) (rest : List Arrival) : (s.take e rest).fw = s.fw := rfl
@[simp] theorem State.take_store (s : State) (e : Env) (rest : List Arrival) : (s.take e rest).store = s.store := rfl
@[simp] theorem State.take_cipher (s : State) (e : Env) (rest : List Arrival) : (s.take e rest).cipher = s.cipher := rfl
@[simp] theorem State.take_mpeg (s : State) (e : Env) (rest : List Arrival) : (s.take e rest).mpeg = s.mpeg := rfl
@[simp] theorem State.take_ident (s : State) (e : Env) (rest : List Arrival) : (s.take e rest).ident = s.ident := rfl
@[simp] theorem State.take_net (s : State) (e : Env) (rest : List Arrival) : (s.take e rest).net = s.net := rfl
@[simp] theorem State.take_out (s : State) (e : Env) (rest : List Arrival) : (s.take e rest).out = s.out := rfl
@[simp] theorem State.take_trace (s : State) (e : Env) (rest : List Arrival) : (s.take e rest).trace = s.trace := rfl
@[simp] theorem State.take_refused (s : State) (e : Env) (rest : List Arrival) : (s.take e rest).refused = s.refused := rfl
@[simp] theorem State.take_pending (s : State) (e : Env) (rest : List Arrival) : (s.take e rest).pending = rest := rfl
@[simp] theorem State.take_env (s : State) (e : Env) (rest : List Arrival) : (s.take e rest).env = e := rfl
@[simp] theorem State.take_returned (s : State) (e : Env) (rest : List Arrival) : (s.take e rest).returned = s.returned := rfl

@[simp] theorem State.deliver_fw (s : State) (r : Request) : (s.deliver r).fw = s.fw := rfl
@[simp] theorem State.deliver_store (s : State) (r : Request) : (s.deliver r).store = s.store := rfl
@[simp] theorem State.deliver_cipher (s : State) (r : Request) : (s.deliver r).cipher = s.cipher := rfl
@[simp] theorem State.deliver_mpeg (s : State) (r : Request) : (s.deliver r).mpeg = s.mpeg := rfl
@[simp] theorem State.deliver_ident (s : State) (r : Request) : (s.deliver r).ident = s.ident := rfl
@[simp] theorem State.deliver_net (s : State) (r : Request) : (s.deliver r).net = s.net := rfl
@[simp] theorem State.deliver_out (s : State) (r : Request) : (s.deliver r).out = s.out := rfl
@[simp] theorem State.deliver_trace (s : State) (r : Request) : (s.deliver r).trace = s.trace := rfl
@[simp] theorem State.deliver_refused (s : State) (r : Request) : (s.deliver r).refused = s.refused := rfl
@[simp] theorem State.deliver_pending (s : State) (r : Request) : (s.deliver r).pending = { request := r, env := s.env } :: s.pending := rfl
@[simp] theorem State.deliver_env (s : State) (r : Request) : (s.deliver r).env = s.env := rfl
@[simp] theorem State.deliver_returned (s : State) (r : Request) : (s.deliver r).returned = s.returned := rfl

@[simp] theorem State.latchTimer_fw (s : State) : (s.latchTimer).fw = s.fw := rfl
@[simp] theorem State.latchTimer_store (s : State) : (s.latchTimer).store = s.store := rfl
@[simp] theorem State.latchTimer_cipher (s : State) : (s.latchTimer).cipher = s.cipher := rfl
@[simp] theorem State.latchTimer_mpeg (s : State) : (s.latchTimer).mpeg = { s.mpeg with sampleCounterLatched := s.mpeg.sampleCounter } := rfl
@[simp] theorem State.latchTimer_ident (s : State) : (s.latchTimer).ident = s.ident := rfl
@[simp] theorem State.latchTimer_net (s : State) : (s.latchTimer).net = s.net := rfl
@[simp] theorem State.latchTimer_out (s : State) : (s.latchTimer).out = s.out := rfl
@[simp] theorem State.latchTimer_trace (s : State) : (s.latchTimer).trace = s.trace := rfl
@[simp] theorem State.latchTimer_refused (s : State) : (s.latchTimer).refused = s.refused := rfl
@[simp] theorem State.latchTimer_pending (s : State) : (s.latchTimer).pending = s.pending := rfl
@[simp] theorem State.latchTimer_env (s : State) : (s.latchTimer).env = s.env := rfl
@[simp] theorem State.latchTimer_returned (s : State) : (s.latchTimer).returned = s.returned := rfl

@[simp] theorem State.clearUpperHalves_fw (s : State) : (s.clearUpperHalves).fw = s.fw := rfl
@[simp] theorem State.clearUpperHalves_store (s : State) : (s.clearUpperHalves).store = s.store := rfl
@[simp] theorem State.clearUpperHalves_cipher (s : State) : (s.clearUpperHalves).cipher = s.cipher := rfl
@[simp] theorem State.clearUpperHalves_mpeg (s : State) : (s.clearUpperHalves).mpeg = { s.mpeg with
    sampleCounter := s.mpeg.sampleCounter &&& 0x0000FFFF,
    sampleCounterLatched := s.mpeg.sampleCounterLatched &&& 0x0000FFFF } := rfl
@[simp] theorem State.clearUpperHalves_ident (s : State) : (s.clearUpperHalves).ident = s.ident := rfl
@[simp] theorem State.clearUpperHalves_net (s : State) : (s.clearUpperHalves).net = s.net := rfl
@[simp] theorem State.clearUpperHalves_out (s : State) : (s.clearUpperHalves).out = s.out := rfl
@[simp] theorem State.clearUpperHalves_trace (s : State) : (s.clearUpperHalves).trace = s.trace := rfl
@[simp] theorem State.clearUpperHalves_refused (s : State) : (s.clearUpperHalves).refused = s.refused := rfl
@[simp] theorem State.clearUpperHalves_pending (s : State) : (s.clearUpperHalves).pending = s.pending := rfl
@[simp] theorem State.clearUpperHalves_env (s : State) : (s.clearUpperHalves).env = s.env := rfl
@[simp] theorem State.clearUpperHalves_returned (s : State) : (s.clearUpperHalves).returned = s.returned := rfl

@[simp] theorem State.sendByte_fw (s : State) : (s.sendByte).fw = s.fw := rfl
@[simp] theorem State.sendByte_store (s : State) : (s.sendByte).store = s.store := rfl
@[simp] theorem State.sendByte_cipher (s : State) : (s.sendByte).cipher = s.cipher := rfl
@[simp] theorem State.sendByte_mpeg (s : State) : (s.sendByte).mpeg = { s.mpeg with
    pendingWord := s.mpeg.pendingWord >>> 8, pendingByteCount := s.mpeg.pendingByteCount - 1 } := rfl
@[simp] theorem State.sendByte_ident (s : State) : (s.sendByte).ident = s.ident := rfl
@[simp] theorem State.sendByte_net (s : State) : (s.sendByte).net = s.net := rfl
@[simp] theorem State.sendByte_out (s : State) : (s.sendByte).out = s.out := rfl
@[simp] theorem State.sendByte_trace (s : State) : (s.sendByte).trace = s.trace ++ [.byteSink (lowByte s.mpeg.pendingWord)] := rfl
@[simp] theorem State.sendByte_refused (s : State) : (s.sendByte).refused = s.refused := rfl
@[simp] theorem State.sendByte_pending (s : State) : (s.sendByte).pending = s.pending := rfl
@[simp] theorem State.sendByte_env (s : State) : (s.sendByte).env = s.env := rfl
@[simp] theorem State.sendByte_returned (s : State) : (s.sendByte).returned = s.returned := rfl

@[simp] theorem State.produceWord_fw (s : State) (c : Config) : (s.produceWord c).fw = s.fw := rfl
@[simp] theorem State.produceWord_store (s : State) (c : Config) : (s.produceWord c).store = s.store := rfl
@[simp] theorem State.produceWord_cipher (s : State) (c : Config) : (s.produceWord c).cipher = s.cipher.keyStep := rfl
@[simp] theorem State.produceWord_mpeg (s : State) (c : Config) : (s.produceWord c).mpeg = { s.mpeg with
    pendingWord := byteSwap (s.cipher.wordMap (fetchWord c s.store s.mpeg.currentAddr)),
    currentAddr := nextAddr s.mpeg.currentAddr, pendingByteCount := 2 } := rfl
@[simp] theorem State.produceWord_ident (s : State) (c : Config) : (s.produceWord c).ident = s.ident := rfl
@[simp] theorem State.produceWord_net (s : State) (c : Config) : (s.produceWord c).net = s.net := rfl
@[simp] theorem State.produceWord_out (s : State) (c : Config) : (s.produceWord c).out = s.out := rfl
@[simp] theorem State.produceWord_trace (s : State) (c : Config) : (s.produceWord c).trace = s.trace := rfl
@[simp] theorem State.produceWord_refused (s : State) (c : Config) : (s.produceWord c).refused = s.refused := rfl
@[simp] theorem State.produceWord_pending (s : State) (c : Config) : (s.produceWord c).pending = s.pending := rfl
@[simp] theorem State.produceWord_env (s : State) (c : Config) : (s.produceWord c).env = s.env := rfl
@[simp] theorem State.produceWord_returned (s : State) (c : Config) : (s.produceWord c).returned = s.returned := rfl

@[simp] theorem State.ctrlWrite_fw (s : State) (c : Config) (d : Word) : (s.ctrlWrite c d).fw = s.fw := rfl
@[simp] theorem State.ctrlWrite_store (s : State) (c : Config) (d : Word) : (s.ctrlWrite c d).store = s.store := rfl
@[simp] theorem State.ctrlWrite_cipher (s : State) (c : Config) (d : Word) : (s.ctrlWrite c d).cipher = s.cipher := rfl
@[simp] theorem State.ctrlWrite_mpeg (s : State) (c : Config) (d : Word) : (s.ctrlWrite c d).mpeg = s.mpeg.ctrlWrite c s.cipher.variant d := rfl
@[simp] theorem State.ctrlWrite_ident (s : State) (c : Config) (d : Word) : (s.ctrlWrite c d).ident = s.ident := rfl
@[simp] theorem State.ctrlWrite_net (s : State) (c : Config) (d : Word) : (s.ctrlWrite c d).net = s.net := rfl
@[simp] theorem State.ctrlWrite_out (s : State) (c : Config) (d : Word) : (s.ctrlWrite c d).out = s.out := rfl
@[simp] theorem State.ctrlWrite_trace (s : State) (c : Config) (d : Word) : (s.ctrlWrite c d).trace = s.trace ++ (if s.mpeg.endCleared c d then [.resetMpegState] else []) := rfl
@[simp] theorem State.ctrlWrite_refused (s : State) (c : Config) (d : Word) : (s.ctrlWrite c d).refused = s.refused := rfl
@[simp] theorem State.ctrlWrite_pending (s : State) (c : Config) (d : Word) : (s.ctrlWrite c d).pending = s.pending := rfl
@[simp] theorem State.ctrlWrite_env (s : State) (c : Config) (d : Word) : (s.ctrlWrite c d).env = s.env := rfl
@[simp] theorem State.ctrlWrite_returned (s : State) (c : Config) (d : Word) : (s.ctrlWrite c d).returned = s.returned := rfl

@[simp] theorem State.loadComplete_fw (s : State) (c : Config) : (s.loadComplete c).fw = { s.fw with status := s.fw.status ||| 0x6000, initialized := true } := rfl
@[simp] theorem State.loadComplete_store (s : State) (c : Config) : (s.loadComplete c).store = s.store := rfl
@[simp] theorem State.loadComplete_cipher (s : State) (c : Config) : (s.loadComplete c).cipher = { s.cipher with variant := selectVariant c s.fw.image } := rfl
@[simp] theorem State.loadComplete_mpeg (s : State) (c : Config) : (s.loadComplete c).mpeg = s.mpeg := rfl
@[simp] theorem State.loadComplete_ident (s : State) (c : Config) : (s.loadComplete c).ident = s.ident := rfl
@[simp] theorem State.loadComplete_net (s : State) (c : Config) : (s.loadComplete c).net = s.net := rfl
@[simp] theorem State.loadComplete_out (s : State) (c : Config) : (s.loadComplete c).out = s.out := rfl
@[simp] theorem State.loadComplete_trace (s : State) (c : Config) : (s.loadComplete c).trace = s.trace := rfl
@[simp] theorem State.loadComplete_refused (s : State) (c : Config) : (s.loadComplete c).refused = s.refused := rfl
@[simp] theorem State.loadComplete_pending (s : State) (c : Config) : (s.loadComplete c).pending = s.pending := rfl
@[simp] theorem State.loadComplete_env (s : State) (c : Config) : (s.loadComplete c).env = s.env := rfl
@[simp] theorem State.loadComplete_returned (s : State) (c : Config) : (s.loadComplete c).returned = s.returned := rfl

@[simp] theorem State.outWrite_fw (s : State) (t : Fin 4) (d : Word) : (s.outWrite t d).fw = s.fw := rfl
@[simp] theorem State.outWrite_store (s : State) (t : Fin 4) (d : Word) : (s.outWrite t d).store = s.store := rfl
@[simp] theorem State.outWrite_cipher (s : State) (t : Fin 4) (d : Word) : (s.outWrite t d).cipher = s.cipher := rfl
@[simp] theorem State.outWrite_mpeg (s : State) (t : Fin 4) (d : Word) : (s.outWrite t d).mpeg = s.mpeg := rfl
@[simp] theorem State.outWrite_ident (s : State) (t : Fin 4) (d : Word) : (s.outWrite t d).ident = s.ident := rfl
@[simp] theorem State.outWrite_net (s : State) (t : Fin 4) (d : Word) : (s.outWrite t d).net = s.net := rfl
@[simp] theorem State.outWrite_out (s : State) (t : Fin 4) (d : Word) : (s.outWrite t d).out = s.out.set (t.castLE (by decide)) (outputNibble d) := rfl
@[simp] theorem State.outWrite_trace (s : State) (t : Fin 4) (d : Word) : (s.outWrite t d).trace = s.trace ++ outEdges t (s.out.get (t.castLE (by decide))) (outputNibble d) := rfl
@[simp] theorem State.outWrite_refused (s : State) (t : Fin 4) (d : Word) : (s.outWrite t d).refused = s.refused := rfl
@[simp] theorem State.outWrite_pending (s : State) (t : Fin 4) (d : Word) : (s.outWrite t d).pending = s.pending := rfl
@[simp] theorem State.outWrite_env (s : State) (t : Fin 4) (d : Word) : (s.outWrite t d).env = s.env := rfl
@[simp] theorem State.outWrite_returned (s : State) (t : Fin 4) (d : Word) : (s.outWrite t d).returned = s.returned := rfl

@[simp] theorem refreshLVR_words (c : Config) (w : AddressWindow) : (w.refreshLVR c).words = w.words := rfl
@[simp] theorem refreshLVR_writeAddr (c : Config) (w : AddressWindow) :
    (w.refreshLVR c).writeAddr = w.writeAddr := rfl
@[simp] theorem refreshLVR_readAddr (c : Config) (w : AddressWindow) :
    (w.refreshLVR c).readAddr = w.readAddr := rfl
@[simp] theorem refreshLVR_lastValidRead (c : Config) (w : AddressWindow) :
    (w.refreshLVR c).lastValidRead = (memRead c w.words w.readAddr).getD w.lastValidRead := rfl

@[simp] theorem gateOpen_eq (s : State) : s.gateOpen = s.fw.initialized := rfl

end Sys2Proof.Machine
end

