-- ==== Sys2Proof/Laws/Ops.lean ====
section
/-! SUPPORT. For each shared operation, everything it can do, said once. -/

namespace Sys2Proof.Machine

/-- An operation answers a next state only in a run that is not refused, and that state is its effect. -/
theorem perform_next_iff (s t : State) (effect : State → State) :
    perform s effect = .next t ↔ s.refused = none ∧ t = effect s := by
  unfold perform
  split <;> simp_all [eq_comm]

theorem perform_of_completed {s : State} (h : s.refused = none) (effect : State → State) :
    perform s effect = .next (effect s) :=
  (perform_next_iff s _ effect).2 ⟨h, rfl⟩

theorem perform_of_refused {s : State} {r : Reason} (h : s.refused = some r) (effect : State → State) :
    perform s effect = .refused .runRefused := by
  unfold perform; rw [h]

theorem writeUngated_of_completed {s : State} (h : s.refused = none) (effect : State → State) :
    writeUngated s effect = .next ((effect s).answer none) :=
  perform_of_completed h _

theorem readUngated_of_completed {s : State} (h : s.refused = none) (value : State → Word)
    (effect : State → State) :
    readUngated s value effect = .next ((effect s).answer (some (value s))) :=
  perform_of_completed h _

theorem writeGated_of_live {s : State} (h : s.live) (effect : State → State) :
    writeGated s effect = .next ((effect s).answer none) := by
  rw [writeGated, writeUngated_of_completed h.1, gateOpen_eq, h.2, if_pos rfl]

theorem writeGated_of_closed {s : State} (h : s.closed) (effect : State → State) :
    writeGated s effect = .next (s.answer none) := by
  rw [writeGated, writeUngated_of_completed h.1, gateOpen_eq, h.2, if_neg Bool.false_ne_true]

theorem readGated_of_live {s : State} (h : s.live) (value : State → Word) (effect : State → State) :
    readGated s value effect = .next ((effect s).answer (some (value s))) := by
  rw [readGated, readUngated_of_completed h.1, gateOpen_eq, h.2, if_pos rfl, if_pos rfl]

theorem readGated_of_closed {s : State} (h : s.closed) (value : State → Word) (effect : State → State) :
    readGated s value effect = .next (s.answer (some sentinel)) := by
  rw [readGated, readUngated_of_completed h.1, gateOpen_eq, h.2, if_neg Bool.false_ne_true,
    if_neg Bool.false_ne_true]

theorem peekGated_of_live {s : State} (h : s.live) (value : State → Word) :
    peekGated s value = .next (s.answer (some (value s))) :=
  readGated_of_live h value id

theorem peekGated_of_closed {s : State} (h : s.closed) (value : State → Word) :
    peekGated s value = .next (s.answer (some sentinel)) :=
  readGated_of_closed h value id

theorem writeRefused_of_live {s : State} (h : s.live) (r : Reason) :
    writeRefused s r = .next (s.refuse r) := by
  rw [writeRefused, perform_of_completed h.1, gateOpen_eq, h.2, if_pos rfl]

theorem writeRefused_of_closed {s : State} (h : s.closed) (r : Reason) :
    writeRefused s r = .next (s.answer none) := by
  rw [writeRefused, perform_of_completed h.1, gateOpen_eq, h.2, if_neg Bool.false_ne_true]

theorem readRefused_of_live {s : State} (h : s.live) (r : Reason) :
    readRefused s r = .next (s.refuse r) := by
  rw [readRefused, perform_of_completed h.1, gateOpen_eq, h.2, if_pos rfl]

theorem readRefused_of_closed {s : State} (h : s.closed) (r : Reason) :
    readRefused s r = .next (s.answer (some sentinel)) := by
  rw [readRefused, perform_of_completed h.1, gateOpen_eq, h.2, if_neg Bool.false_ne_true]

/-- Everything a gated write can do. -/
theorem writeGated_next {s t : State} {effect : State → State} (h : writeGated s effect = .next t) :
    (s.live ∧ t = (effect s).answer none) ∨ (s.closed ∧ t = s.answer none) := by
  rw [writeGated, writeUngated] at h
  obtain ⟨hr, rfl⟩ := (perform_next_iff s t _).1 h
  cases hg : s.fw.initialized with
  | true => exact .inl ⟨⟨hr, hg⟩, by simp [hg]⟩
  | false => exact .inr ⟨⟨hr, hg⟩, by simp [hg]⟩

/-- Everything a gated read can do. -/
theorem readGated_next {s t : State} {value : State → Word} {effect : State → State}
    (h : readGated s value effect = .next t) :
    (s.live ∧ t = (effect s).answer (some (value s))) ∨ (s.closed ∧ t = s.answer (some sentinel)) := by
  rw [readGated, readUngated] at h
  obtain ⟨hr, rfl⟩ := (perform_next_iff s t _).1 h
  cases hg : s.fw.initialized with
  | true => exact .inl ⟨⟨hr, hg⟩, by simp [hg]⟩
  | false => exact .inr ⟨⟨hr, hg⟩, by simp [hg]⟩

/-- Everything a gated read without side effect can do. -/
theorem peekGated_next {s t : State} {value : State → Word} (h : peekGated s value = .next t) :
    (s.live ∧ t = s.answer (some (value s))) ∨ (s.closed ∧ t = s.answer (some sentinel)) :=
  readGated_next h

/-- Everything an undescribed write can do. -/
theorem writeRefused_next {s t : State} {r : Reason} (h : writeRefused s r = .next t) :
    (s.live ∧ t = s.refuse r) ∨ (s.closed ∧ t = s.answer none) := by
  obtain ⟨hr, rfl⟩ := (perform_next_iff s t _).1 h
  cases hg : s.fw.initialized with
  | true => exact .inl ⟨⟨hr, hg⟩, by simp [hg]⟩
  | false => exact .inr ⟨⟨hr, hg⟩, by simp [hg]⟩

/-- Everything an undescribed read can do. -/
theorem readRefused_next {s t : State} {r : Reason} (h : readRefused s r = .next t) :
    (s.live ∧ t = s.refuse r) ∨ (s.closed ∧ t = s.answer (some sentinel)) := by
  obtain ⟨hr, rfl⟩ := (perform_next_iff s t _).1 h
  cases hg : s.fw.initialized with
  | true => exact .inl ⟨⟨hr, hg⟩, by simp [hg]⟩
  | false => exact .inr ⟨⟨hr, hg⟩, by simp [hg]⟩

/-- The stale-value latch after a refresh (20_memory.md R45). -/
theorem refreshLVR_eq (c : Config) (w : AddressWindow) :
    w.refreshLVR c =
      { w with lastValidRead :=
          if inRange c w.readAddr then w.words.readWord w.readAddr.toNat else w.lastValidRead } := by
  unfold AddressWindow.refreshLVR memRead
  split <;> rfl

/-- Every step: nothing is delivered, a request is refused, or an instruction is performed. -/
theorem step_next {s t : State} (h : step s = .next t) :
    s.refused = none ∧
      ((s.pending = [] ∧ t = s) ∨
        ∃ a rest, s.pending = a :: rest ∧
          ((∃ why, requestInstr Config.board a.request = .error why ∧ t = (s.take a.env rest).refuse why) ∨
            ∃ i, requestInstr Config.board a.request = .ok i ∧ exec i (s.take a.env rest) = .next t)) := by
  unfold step at h
  split at h
  · cases h
  · rename_i hr
    refine ⟨hr, ?_⟩
    split at h
    · exact .inl ⟨‹_›, (by simpa using h.symm)⟩
    · rename_i a rest hp
      refine .inr ⟨a, rest, hp, ?_⟩
      split at h
      · exact .inr ⟨_, ‹_›, h⟩
      · exact .inl ⟨_, ‹_›, (by simpa using h.symm)⟩

/-- A property every instruction keeps, that taking an arrival and refusing keep too, is kept by every
step. -/
theorem step_keeps {P : State → Prop} (htake : ∀ s e rest, P s → P (s.take e rest))
    (hrefuse : ∀ s r, P s → P (s.refuse r)) (hexec : ∀ i s t, P s → exec i s = .next t → P t)
    {s t : State} (hs : P s) (h : step s = .next t) : P t := by
  obtain ⟨-, ⟨-, rfl⟩ | ⟨a, rest, -, ⟨why, -, rfl⟩ | ⟨i, -, he⟩⟩⟩ := step_next h
  · exact hs
  · exact hrefuse _ _ (htake _ _ _ hs)
  · exact hexec i _ t (htake _ _ _ hs) he

end Sys2Proof.Machine
end

