-- ==== Sys2Proof/Laws/Exec.lean ====
section
/-! SUPPORT. What an instruction can do, said once: `exec_next` takes apart any answered next state, so that
no invariant's proof unfolds a meaning it does not need. -/

namespace Sys2Proof.Machine

theorem masked_and (a : Addr) : Masked (a &&& addrMask) := by
  show a &&& addrMask &&& ~~~addrMask = 0
  rw [BitVec.and_assoc, BitVec.and_not_self]
  exact BitVec.and_zero

theorem masked_withHighHalf (data : Word) (old : Addr) : Masked (withHighHalf data old) := masked_and _
theorem masked_withLowHalf (data : Word) (old : Addr) : Masked (withLowHalf data old) := masked_and _
theorem masked_nextAddr (a : Addr) : Masked (nextAddr a) := masked_and _

/-- Everything an instruction can do in a run that is not refused, one constructor for each effect. -/
inductive Change (s : State) : Instr → State → Prop
  /-- A read without effect, a write without effect, or a closed gate. -/
  | quiet (i : Instr) (v : Option Word) : Change s i (s.answer v)
  /-- An undescribed direction, or the identity bank, with the gate open. -/
  | refuse (i : Instr) (r : Reason) : s.live → Change s i (s.refuse r)
  | status (d : Word) : Change s (.wrFwStatus d) ((State.statusWrite d s).answer none)
  | bit (d : Word) : Change s (.wrFwData d) ((State.firmwareBitWrite Config.board d s).answer none)
  | reset : Change s .evReset (s.controllerReset.answer none)
  | writeAddr (i : Instr) (a : Addr) : s.live → Masked a → Change s i ((s.setWriteAddr a).answer none)
  | readAddr (i : Instr) (a : Addr) : s.live → Masked a →
      Change s i ((s.setReadAddr Config.board a).answer none)
  | dataWrite (d : Word) : s.live →
      Change s (.wrRamData d) ({ s with store := s.store.dataWrite Config.board d }.answer none)
  | dataRead (v : Option Word) : s.live →
      Change s .rdRamData ({ s with store := s.store.afterRead Config.board }.answer v)
  | keys (i : Instr) (k1 k2 : Word) (k3 : Byte) : s.live →
      Change s i ({ s with cipher := { s.cipher with key1 := k1, key2 := k2, key3 := k3 } }.answer none)
  | startAddr (i : Instr) (a : Addr) : s.live → Masked a →
      Change s i ((s.withMpeg { s.mpeg with currentAddr := a }).answer none)
  | endAddr (i : Instr) (a : Addr) : s.live → Masked a →
      Change s i ((s.withMpeg { s.mpeg with endAddr := a }).answer none)
  | control (d : Word) : s.live → Change s (.wrMpegCtrl d) ((State.ctrlWrite Config.board d s).answer none)
  | latch (i : Instr) (v : Option Word) : s.live → Change s i (s.latchTimer.answer v)
  | diff (v : Option Word) : s.live → Change s .rdTimerDiff (s.clearUpperHalves.answer v)
  | timerWrite (d : Word) : s.live → Change s (.wrTimerLo d) ((s.timerWrite Config.board).answer none)
  | frameSync (b : Bool) :
      Change s (.evFrameSync b) ((s.withMpeg (s.mpeg.frameSync Config.board b)).answer none)
  | demand (b : Bool) : Change s (.evDemand b) ((s.withMpeg { s.mpeg with demand := b }).answer none)
  | crcError (b : Bool) : Change s (.evCrcError b) ((s.withMpeg { s.mpeg with crcError := b }).answer none)
  | frameIdent (b : Bool) :
      Change s (.evFrameId b) ((s.withMpeg (s.mpeg.frameIdent Config.board b)).answer none)
  | tick : Change s .evTick ((s.tick Config.board).answer none)
  | netWrite (d : Word) : s.live →
      Change s (.wrNetData d) ({ s with net := s.net.writeByte (lowByte d) }.answer none)
  | netRead (v : Option Word) : s.live → Change s .rdNetData ({ s with net := s.net.pop }.answer v)
  | netReset (d : Word) : s.live →
      Change s (.wrNetReset d) ({ s with net := s.net.networkReset }.answer none)
  | netId (d : Word) : s.live →
      Change s (.wrNetId d) ({ s with net := { s.net with localId := d } }.answer none)
  | pump : Change s .evPump ((s.pump Config.board).answer none)
  | identRead (v : Option Word) (w : Word) : s.live →
      Change s .rdIdent ({ s with ident := { cache := w } }.answer v)
  | identWrite (d : Word) : s.live →
      Change s (.wrIdent d) ((s.emit [.identityLine (identityDrive d)]).answer none)
  | output (i : Instr) (n : Fin 4) (d : Word) : s.live → Change s i ((State.outWrite n d s).answer none)

section
variable {s t : State} {i : Instr}

theorem change_writeGated {effect : State → State} (h : writeGated s effect = .next t)
    (hl : s.live → Change s i ((effect s).answer none)) : Change s i t := by
  obtain ⟨hs, rfl⟩ | ⟨-, rfl⟩ := writeGated_next h
  · exact hl hs
  · exact .quiet i none

theorem change_readGated {value : State → Word} {effect : State → State}
    (h : readGated s value effect = .next t)
    (hl : s.live → Change s i ((effect s).answer (some (value s)))) : Change s i t := by
  obtain ⟨hs, rfl⟩ | ⟨-, rfl⟩ := readGated_next h
  · exact hl hs
  · exact .quiet i _

theorem change_peekGated {value : State → Word} (h : peekGated s value = .next t) : Change s i t :=
  change_readGated h fun _ => .quiet i _

theorem change_writeRefused {r : Reason} (h : writeRefused s r = .next t) : Change s i t := by
  obtain ⟨hs, rfl⟩ | ⟨-, rfl⟩ := writeRefused_next h
  · exact .refuse i r hs
  · exact .quiet i none

theorem change_readRefused {r : Reason} (h : readRefused s r = .next t) : Change s i t := by
  obtain ⟨hs, rfl⟩ | ⟨-, rfl⟩ := readRefused_next h
  · exact .refuse i r hs
  · exact .quiet i _

theorem change_writeUngated {effect : State → State} (h : writeUngated s effect = .next t)
    (hc : Change s i ((effect s).answer none)) : Change s i t := by
  rw [((perform_next_iff s t _).1 h).2]
  exact hc

theorem change_readUngated {value : State → Word} (h : readUngated s value id = .next t) : Change s i t := by
  rw [((perform_next_iff s t _).1 h).2]
  exact .quiet i _

end

/-- Everything an instruction can do. -/
theorem exec_next {i : Instr} {s t : State} (h : exec i s = .next t) : Change s i t := by
  cases i with
  | wrFwStatus d => exact change_writeUngated h (.status d)
  | wrFwData d => exact change_writeUngated h (.bit d)
  | evReset => exact change_writeUngated h .reset
  | wrRamWaddrHi d => exact change_writeGated h fun hl => .writeAddr _ _ hl (masked_withHighHalf _ _)
  | wrRamWaddrLo d => exact change_writeGated h fun hl => .writeAddr _ _ hl (masked_withLowHalf _ _)
  | wrRamRaddrHi d => exact change_writeGated h fun hl => .readAddr _ _ hl (masked_withHighHalf _ _)
  | wrRamRaddrLo d => exact change_writeGated h fun hl => .readAddr _ _ hl (masked_withLowHalf _ _)
  | wrRamData d =>
    simp only [exec, execWrRamData] at h
    exact change_writeGated h fun hl => .dataWrite d hl
  | rdRamData =>
    simp only [exec, execRdRamData] at h
    exact change_readGated h fun hl => .dataRead _ hl
  | wrMpegKey1 d =>
    simp only [exec, execWrMpegKey1] at h
    exact change_writeGated h fun hl => .keys _ d s.cipher.key2 s.cipher.key3 hl
  | wrMpegKey2 d =>
    simp only [exec, execWrMpegKey2] at h
    exact change_writeGated h fun hl => .keys _ s.cipher.key1 d s.cipher.key3 hl
  | wrMpegKey3 d =>
    simp only [exec, execWrMpegKey3] at h
    exact change_writeGated h fun hl => .keys _ s.cipher.key1 s.cipher.key2 (lowByte d) hl
  | wrMpegStartHi d => exact change_writeGated h fun hl => .startAddr _ _ hl (masked_withHighHalf _ _)
  | wrMpegStartLo d => exact change_writeGated h fun hl => .startAddr _ _ hl (masked_withLowHalf _ _)
  | wrMpegEndHi d => exact change_writeGated h fun hl => .endAddr _ _ hl (masked_withHighHalf _ _)
  | wrMpegEndLo d => exact change_writeGated h fun hl => .endAddr _ _ hl (masked_withLowHalf _ _)
  | wrMpegCtrl d => exact change_writeGated h fun hl => .control d hl
  | rdTimerHi =>
    refine change_readGated h fun hl => ?_
    unfold State.latchTimerHigh
    split
    · exact .quiet _ _
    · exact .latch _ _ hl
  | rdTimerLo =>
    simp only [exec, execRdTimerLo] at h
    exact change_readGated h fun hl => .latch _ _ hl
  | rdTimerDiff =>
    simp only [exec, execRdTimerDiff] at h
    exact change_readGated h fun hl => .diff _ hl
  | wrTimerLo d => exact change_writeGated h fun hl => .timerWrite d hl
  | evFrameSync b => exact change_writeUngated h (.frameSync b)
  | evDemand b => exact change_writeUngated h (.demand b)
  | evCrcError b => exact change_writeUngated h (.crcError b)
  | evFrameId b => exact change_writeUngated h (.frameIdent b)
  | evTick => exact change_writeUngated h .tick
  | wrNetData d =>
    simp only [exec, execWrNetData] at h
    exact change_writeGated h fun hl => .netWrite d hl
  | rdNetData =>
    simp only [exec, execRdNetData] at h
    exact change_readGated h fun hl => .netRead _ hl
  | wrNetReset d =>
    simp only [exec, execWrNetReset] at h
    exact change_writeGated h fun hl => .netReset d hl
  | wrNetId d =>
    simp only [exec, execWrNetId] at h
    exact change_writeGated h fun hl => .netId d hl
  | evPump => exact change_writeUngated h .pump
  | rdIdent =>
    simp only [exec, execRdIdent] at h
    exact change_readGated h fun hl => .identRead _ _ hl
  | wrIdent d =>
    simp only [exec, execWrIdent] at h
    exact change_writeGated h fun hl => .identWrite d hl
  | wrOut0 d => exact change_writeGated h fun hl => .output _ 0 d hl
  | wrOut1 d => exact change_writeGated h fun hl => .output _ 1 d hl
  | wrOut2 d => exact change_writeGated h fun hl => .output _ 2 d hl
  | wrOut3 d => exact change_writeGated h fun hl => .output _ 3 d hl
  | wrMpegStatus d => exact change_writeGated h fun _ => .quiet _ none
  | wrUnmapped d => exact change_writeUngated h (.quiet _ none)
  | rdFwStatus | irdFwStatus | rdUnmapped | irdUnmapped =>
    simp only [exec, execRdFwStatus, execIrdFwStatus, execRdUnmapped, execIrdUnmapped] at h
    exact change_readUngated h
  | wrRamCtrl _ | wrTimerHi _ | wrTimerDiff _ | wrIdBank _ | wrNetOutSize _ | wrNetInSize _ =>
    exact change_writeRefused h
  | irdRamData | rdMpegStatus | irdMpegStatus | rdMpegCtrl | irdMpegCtrl | irdTimerHi | irdTimerLo
  | irdTimerDiff | irdIdent | irdNetData | rdNetOutSize | irdNetOutSize | rdNetInSize | irdNetInSize =>
    simp only [exec, execIrdRamData, execRdMpegStatus, execIrdMpegStatus, execRdMpegCtrl,
      execIrdMpegCtrl, execIrdTimerHi, execIrdTimerLo, execIrdTimerDiff, execIrdIdent, execIrdNetData,
      execRdNetOutSize, execIrdNetOutSize, execRdNetInSize, execIrdNetInSize] at h
    exact change_peekGated h
  | rdFwData | irdFwData | rdRamWaddrHi | irdRamWaddrHi | rdRamWaddrLo | irdRamWaddrLo | rdRamRaddrHi
  | irdRamRaddrHi | rdRamRaddrLo | irdRamRaddrLo | rdRamCtrl | irdRamCtrl | rdMpegStartHi
  | irdMpegStartHi | rdMpegStartLo | irdMpegStartLo | rdMpegEndHi | irdMpegEndHi | rdMpegEndLo
  | irdMpegEndLo | rdMpegKey1 | irdMpegKey1 | rdMpegKey2 | irdMpegKey2 | rdMpegKey3 | irdMpegKey3
  | rdIdBank | irdIdBank | rdNetReset | irdNetReset | rdNetId | irdNetId | rdOut0 | irdOut0 | rdOut1
  | irdOut1 | rdOut2 | irdOut2 | rdOut3 | irdOut3 => exact change_readRefused h

end Sys2Proof.Machine
end

