-- ==== Sys2Proof/Laws/Network.lean ====
section
/-! SUPPORT. What the framer and the pump can do. -/

namespace Sys2Proof.Machine

/-- Everything the framer can do with a byte: reject it, start a frame, absorb a degenerate pair, complete
a frame, or append (45_network.md R230, R231). -/
theorem frameStep_cases (buf : List Byte) (b : Byte) :
    (buf = [] ∧ b ≠ delim ∧ frameStep buf b = ([], none)) ∨
    (buf = [] ∧ b = delim ∧ frameStep buf b = ([delim], none)) ∨
    (buf = [delim] ∧ b = delim ∧ frameStep buf b = ([delim], none)) ∨
    (1 < buf.length ∧ buf.head? = some delim ∧ b = delim ∧
      frameStep buf b = ([], some (buf ++ [delim]))) ∨
    (buf ≠ [] ∧ (b ≠ delim ∨ buf.head? ≠ some delim) ∧ frameStep buf b = (buf ++ [b], none)) := by
  cases buf with
  | nil =>
    by_cases hb : b = delim
    · subst hb; exact .inr (.inl ⟨rfl, rfl, by simp [frameStep, complete]⟩)
    · exact .inl ⟨rfl, hb, by simp [frameStep, hb]⟩
  | cons x xs =>
    by_cases hb : b = delim
    · subst hb
      by_cases hx : x = delim
      · subst hx
        cases xs with
        | nil => exact .inr (.inr (.inl ⟨rfl, rfl, by simp [frameStep, complete]⟩))
        | cons y ys =>
          exact .inr (.inr (.inr (.inl ⟨by simp, rfl, rfl, by
            have hlast : (delim :: y :: (ys ++ [delim])).getLast? = some delim := by
              rw [← List.cons_append, ← List.cons_append, List.getLast?_concat]
            simp [frameStep, complete, hlast]⟩)))
      · exact .inr (.inr (.inr (.inr ⟨by simp, .inr (by simpa using hx), by
          simp [frameStep, complete, hx]⟩)))
    · refine .inr (.inr (.inr (.inr ⟨by simp, .inl hb, ?_⟩)))
      have hlast : ((x :: xs) ++ [b]).getLast? = some b := List.getLast?_concat
      simp only [frameStep, complete, hlast]
      simp [hb]

/-- The framer keeps an input buffer a frame in the making, and what it completes is a frame
(45_network.md R230, R231). -/
theorem frameStep_ok {buf : List Byte} {b : Byte} (h : BufferOk buf) :
    BufferOk (frameStep buf b).1 ∧ ∀ f, (frameStep buf b).2 = some f → FrameOk f := by
  rcases frameStep_cases buf b with ⟨_, _, e⟩ | ⟨_, _, e⟩ | ⟨_, _, e⟩ | ⟨hl, _, _, e⟩ | ⟨hn, hb, e⟩ <;> rw [e]
  · exact ⟨.inl rfl, by simp⟩
  · exact ⟨.inr ⟨[], rfl, by simp⟩, by simp⟩
  · exact ⟨.inr ⟨[], rfl, by simp⟩, by simp⟩
  · refine ⟨.inl rfl, ?_⟩
    rcases h with rfl | ⟨p, rfl, hp⟩
    · simp at hl
    · rintro f hf
      cases hf
      exact ⟨p, by rintro rfl; simp at hl, hp, by simp⟩
  · refine ⟨.inr ?_, by simp⟩
    rcases h with rfl | ⟨p, rfl, hp⟩
    · exact absurd rfl hn
    · have : b ≠ delim := by simpa using hb
      exact ⟨p ++ [b], by simp, by simp [hp, this.symm]⟩

@[simp] theorem framesOf_nil (buf : List Byte) : framesOf buf [] = ([], buf) := rfl

theorem framesOf_cons (buf : List Byte) (b : Byte) (bs : List Byte) :
    framesOf buf (b :: bs) = ((frameStep buf b).2.toList ++ (framesOf (frameStep buf b).1 bs).1,
      (framesOf (frameStep buf b).1 bs).2) := rfl

/-- Framing a sequence in two pieces, as over two pumps. -/
theorem framesOf_append (buf xs ys : List Byte) :
    framesOf buf (xs ++ ys) = ((framesOf buf xs).1 ++ (framesOf (framesOf buf xs).2 ys).1,
      (framesOf (framesOf buf xs).2 ys).2) := by
  induction xs generalizing buf with
  | nil => rfl
  | cons x xs ih => simp [framesOf_cons, ih]

/-- Over any bytes the framer keeps a buffer in the making, and every frame it completes is one
(45_network.md R230, R231). -/
theorem framesOf_ok {buf : List Byte} (bytes : List Byte) (h : BufferOk buf) :
    BufferOk (framesOf buf bytes).2 ∧ ∀ f ∈ (framesOf buf bytes).1, FrameOk f := by
  induction bytes generalizing buf with
  | nil => exact ⟨h, fun f hf => nomatch hf⟩
  | cons b bs ih =>
    obtain ⟨hbuf, hframe⟩ := frameStep_ok (b := b) h
    obtain ⟨hbuf', hframes⟩ := ih hbuf
    refine ⟨hbuf', fun f hf => ?_⟩
    rw [framesOf_cons, List.mem_append, Option.mem_toList] at hf
    exact hf.elim (hframe f) (hframes f)

/-- Inbound framing leaves the id register and the outbound side alone (45_network.md R236). -/
theorem receive_outbound (i : Nat) (n : NetState) (b : Byte) :
    (n.receive i b).localId = n.localId ∧ (n.receive i b).outputFrame = n.outputFrame ∧
      (n.receive i b).outputQueue = n.outputQueue ∧
      (n.receive i b).outputByteCount = n.outputByteCount := by
  unfold NetState.receive NetState.acceptFrame
  rcases frameStep (n.inputFrame.read i) b with ⟨a, _ | f⟩
  · exact ⟨rfl, rfl, rfl, rfl⟩
  · simp only
    split <;> exact ⟨rfl, rfl, rfl, rfl⟩

theorem pumpPort_outbound (e : Env) (n : NetState) (i : Nat) :
    (n.pumpPort e i).localId = n.localId ∧ (n.pumpPort e i).outputFrame = n.outputFrame ∧
      (n.pumpPort e i).outputQueue = n.outputQueue ∧
      (n.pumpPort e i).outputByteCount = n.outputByteCount := by
  unfold NetState.pumpPort
  split
  · generalize (Env.link e i).bytes = bytes
    induction bytes generalizing n with
    | nil => exact ⟨rfl, rfl, rfl, rfl⟩
    | cons b bs ih =>
      obtain ⟨h1, h2, h3, h4⟩ := receive_outbound i n b
      obtain ⟨g1, g2, g3, g4⟩ := ih (n.receive i b)
      exact ⟨g1.trans h1, g2.trans h2, g3.trans h3, g4.trans h4⟩
  · exact ⟨rfl, rfl, rfl, rfl⟩

theorem pumpInbound_outbound (c : Config) (e : Env) (n : NetState) :
    (n.pumpInbound c e).localId = n.localId ∧ (n.pumpInbound c e).outputFrame = n.outputFrame ∧
      (n.pumpInbound c e).outputQueue = n.outputQueue ∧
      (n.pumpInbound c e).outputByteCount = n.outputByteCount := by
  unfold NetState.pumpInbound
  generalize List.range c.numPorts = ports
  induction ports generalizing n with
  | nil => exact ⟨rfl, rfl, rfl, rfl⟩
  | cons i is ih =>
    obtain ⟨h1, h2, h3, h4⟩ := pumpPort_outbound e n i
    obtain ⟨g1, g2, g3, g4⟩ := ih (n.pumpPort e i)
    exact ⟨g1.trans h1, g2.trans h2, g3.trans h3, g4.trans h4⟩

end Sys2Proof.Machine
end

