-- ==== Sys2Proof/Laws/PerInstr.lean ====
section
/-! SUPPORT. Per-instruction facts about instructions as syntax: the word of every instruction spells an
operation, one lemma for each constructor. -/

namespace Sys2Proof.Laws

/-- A packed bus transaction spells an operation. -/
theorem wordWellFormed_packAccess (kind : Access) (sel : Selector) (data : Word) :
    wordWellFormed (packAccess kind sel data) = true := by
  have hk := kindOf_packTxn (kindField kind) (selectorNumber sel) data
  have hs := selOf_packTxn (kindField kind) (selectorNumber sel) data
  unfold kindOf at hk
  unfold selOf at hs
  rw [wordWellFormed, packAccess, hk, hs]
  cases kind <;> cases sel <;> decide

/-- A packed event of an id up to 0x06 spells an operation. -/
theorem wordWellFormed_packEvent (id : BitVec 6) (b : Bool) (h : id.toNat ≤ 6) :
    wordWellFormed (packEvent id b) = true := by
  have hk := kindOf_packTxn eventField id ((BitVec.ofBool b).setWidth 16)
  have hs := selOf_packTxn eventField id ((BitVec.ofBool b).setWidth 16)
  unfold kindOf at hk
  unfold selOf at hs
  rw [wordWellFormed, packEvent, hk, hs]
  simp [eventField, h]

namespace WordOfInstr

/-- The word of an instruction spells an operation (30_encoding.md R65, R66). -/
def Statement (i : Instr) : Prop := wordWellFormed (encode i) = true

theorem wrFwStatus (data : Word) : Statement (.wrFwStatus data) := wordWellFormed_packAccess _ _ _
theorem rdFwStatus : Statement .rdFwStatus := wordWellFormed_packAccess _ _ _
theorem irdFwStatus : Statement .irdFwStatus := wordWellFormed_packAccess _ _ _
theorem wrFwData (data : Word) : Statement (.wrFwData data) := wordWellFormed_packAccess _ _ _
theorem rdFwData : Statement .rdFwData := wordWellFormed_packAccess _ _ _
theorem irdFwData : Statement .irdFwData := wordWellFormed_packAccess _ _ _
theorem wrRamWaddrHi (data : Word) : Statement (.wrRamWaddrHi data) := wordWellFormed_packAccess _ _ _
theorem rdRamWaddrHi : Statement .rdRamWaddrHi := wordWellFormed_packAccess _ _ _
theorem irdRamWaddrHi : Statement .irdRamWaddrHi := wordWellFormed_packAccess _ _ _
theorem wrRamWaddrLo (data : Word) : Statement (.wrRamWaddrLo data) := wordWellFormed_packAccess _ _ _
theorem rdRamWaddrLo : Statement .rdRamWaddrLo := wordWellFormed_packAccess _ _ _
theorem irdRamWaddrLo : Statement .irdRamWaddrLo := wordWellFormed_packAccess _ _ _
theorem wrRamRaddrHi (data : Word) : Statement (.wrRamRaddrHi data) := wordWellFormed_packAccess _ _ _
theorem rdRamRaddrHi : Statement .rdRamRaddrHi := wordWellFormed_packAccess _ _ _
theorem irdRamRaddrHi : Statement .irdRamRaddrHi := wordWellFormed_packAccess _ _ _
theorem wrRamRaddrLo (data : Word) : Statement (.wrRamRaddrLo data) := wordWellFormed_packAccess _ _ _
theorem rdRamRaddrLo : Statement .rdRamRaddrLo := wordWellFormed_packAccess _ _ _
theorem irdRamRaddrLo : Statement .irdRamRaddrLo := wordWellFormed_packAccess _ _ _
theorem wrRamData (data : Word) : Statement (.wrRamData data) := wordWellFormed_packAccess _ _ _
theorem rdRamData : Statement .rdRamData := wordWellFormed_packAccess _ _ _
theorem irdRamData : Statement .irdRamData := wordWellFormed_packAccess _ _ _
theorem wrRamCtrl (data : Word) : Statement (.wrRamCtrl data) := wordWellFormed_packAccess _ _ _
theorem rdRamCtrl : Statement .rdRamCtrl := wordWellFormed_packAccess _ _ _
theorem irdRamCtrl : Statement .irdRamCtrl := wordWellFormed_packAccess _ _ _
theorem wrMpegStartHi (data : Word) : Statement (.wrMpegStartHi data) := wordWellFormed_packAccess _ _ _
theorem rdMpegStartHi : Statement .rdMpegStartHi := wordWellFormed_packAccess _ _ _
theorem irdMpegStartHi : Statement .irdMpegStartHi := wordWellFormed_packAccess _ _ _
theorem wrMpegStartLo (data : Word) : Statement (.wrMpegStartLo data) := wordWellFormed_packAccess _ _ _
theorem rdMpegStartLo : Statement .rdMpegStartLo := wordWellFormed_packAccess _ _ _
theorem irdMpegStartLo : Statement .irdMpegStartLo := wordWellFormed_packAccess _ _ _
theorem wrMpegEndHi (data : Word) : Statement (.wrMpegEndHi data) := wordWellFormed_packAccess _ _ _
theorem rdMpegEndHi : Statement .rdMpegEndHi := wordWellFormed_packAccess _ _ _
theorem irdMpegEndHi : Statement .irdMpegEndHi := wordWellFormed_packAccess _ _ _
theorem wrMpegEndLo (data : Word) : Statement (.wrMpegEndLo data) := wordWellFormed_packAccess _ _ _
theorem rdMpegEndLo : Statement .rdMpegEndLo := wordWellFormed_packAccess _ _ _
theorem irdMpegEndLo : Statement .irdMpegEndLo := wordWellFormed_packAccess _ _ _
theorem wrMpegKey1 (data : Word) : Statement (.wrMpegKey1 data) := wordWellFormed_packAccess _ _ _
theorem rdMpegKey1 : Statement .rdMpegKey1 := wordWellFormed_packAccess _ _ _
theorem irdMpegKey1 : Statement .irdMpegKey1 := wordWellFormed_packAccess _ _ _
theorem wrMpegKey2 (data : Word) : Statement (.wrMpegKey2 data) := wordWellFormed_packAccess _ _ _
theorem rdMpegKey2 : Statement .rdMpegKey2 := wordWellFormed_packAccess _ _ _
theorem irdMpegKey2 : Statement .irdMpegKey2 := wordWellFormed_packAccess _ _ _
theorem wrMpegKey3 (data : Word) : Statement (.wrMpegKey3 data) := wordWellFormed_packAccess _ _ _
theorem rdMpegKey3 : Statement .rdMpegKey3 := wordWellFormed_packAccess _ _ _
theorem irdMpegKey3 : Statement .irdMpegKey3 := wordWellFormed_packAccess _ _ _
theorem wrMpegStatus (data : Word) : Statement (.wrMpegStatus data) := wordWellFormed_packAccess _ _ _
theorem rdMpegStatus : Statement .rdMpegStatus := wordWellFormed_packAccess _ _ _
theorem irdMpegStatus : Statement .irdMpegStatus := wordWellFormed_packAccess _ _ _
theorem wrMpegCtrl (data : Word) : Statement (.wrMpegCtrl data) := wordWellFormed_packAccess _ _ _
theorem rdMpegCtrl : Statement .rdMpegCtrl := wordWellFormed_packAccess _ _ _
theorem irdMpegCtrl : Statement .irdMpegCtrl := wordWellFormed_packAccess _ _ _
theorem wrTimerHi (data : Word) : Statement (.wrTimerHi data) := wordWellFormed_packAccess _ _ _
theorem rdTimerHi : Statement .rdTimerHi := wordWellFormed_packAccess _ _ _
theorem irdTimerHi : Statement .irdTimerHi := wordWellFormed_packAccess _ _ _
theorem wrTimerLo (data : Word) : Statement (.wrTimerLo data) := wordWellFormed_packAccess _ _ _
theorem rdTimerLo : Statement .rdTimerLo := wordWellFormed_packAccess _ _ _
theorem irdTimerLo : Statement .irdTimerLo := wordWellFormed_packAccess _ _ _
theorem wrTimerDiff (data : Word) : Statement (.wrTimerDiff data) := wordWellFormed_packAccess _ _ _
theorem rdTimerDiff : Statement .rdTimerDiff := wordWellFormed_packAccess _ _ _
theorem irdTimerDiff : Statement .irdTimerDiff := wordWellFormed_packAccess _ _ _
theorem wrIdent (data : Word) : Statement (.wrIdent data) := wordWellFormed_packAccess _ _ _
theorem rdIdent : Statement .rdIdent := wordWellFormed_packAccess _ _ _
theorem irdIdent : Statement .irdIdent := wordWellFormed_packAccess _ _ _
theorem wrIdBank (data : Word) : Statement (.wrIdBank data) := wordWellFormed_packAccess _ _ _
theorem rdIdBank : Statement .rdIdBank := wordWellFormed_packAccess _ _ _
theorem irdIdBank : Statement .irdIdBank := wordWellFormed_packAccess _ _ _
theorem wrNetData (data : Word) : Statement (.wrNetData data) := wordWellFormed_packAccess _ _ _
theorem rdNetData : Statement .rdNetData := wordWellFormed_packAccess _ _ _
theorem irdNetData : Statement .irdNetData := wordWellFormed_packAccess _ _ _
theorem wrNetOutSize (data : Word) : Statement (.wrNetOutSize data) := wordWellFormed_packAccess _ _ _
theorem rdNetOutSize : Statement .rdNetOutSize := wordWellFormed_packAccess _ _ _
theorem irdNetOutSize : Statement .irdNetOutSize := wordWellFormed_packAccess _ _ _
theorem wrNetInSize (data : Word) : Statement (.wrNetInSize data) := wordWellFormed_packAccess _ _ _
theorem rdNetInSize : Statement .rdNetInSize := wordWellFormed_packAccess _ _ _
theorem irdNetInSize : Statement .irdNetInSize := wordWellFormed_packAccess _ _ _
theorem wrNetReset (data : Word) : Statement (.wrNetReset data) := wordWellFormed_packAccess _ _ _
theorem rdNetReset : Statement .rdNetReset := wordWellFormed_packAccess _ _ _
theorem irdNetReset : Statement .irdNetReset := wordWellFormed_packAccess _ _ _
theorem wrNetId (data : Word) : Statement (.wrNetId data) := wordWellFormed_packAccess _ _ _
theorem rdNetId : Statement .rdNetId := wordWellFormed_packAccess _ _ _
theorem irdNetId : Statement .irdNetId := wordWellFormed_packAccess _ _ _
theorem wrOut0 (data : Word) : Statement (.wrOut0 data) := wordWellFormed_packAccess _ _ _
theorem rdOut0 : Statement .rdOut0 := wordWellFormed_packAccess _ _ _
theorem irdOut0 : Statement .irdOut0 := wordWellFormed_packAccess _ _ _
theorem wrOut1 (data : Word) : Statement (.wrOut1 data) := wordWellFormed_packAccess _ _ _
theorem rdOut1 : Statement .rdOut1 := wordWellFormed_packAccess _ _ _
theorem irdOut1 : Statement .irdOut1 := wordWellFormed_packAccess _ _ _
theorem wrOut2 (data : Word) : Statement (.wrOut2 data) := wordWellFormed_packAccess _ _ _
theorem rdOut2 : Statement .rdOut2 := wordWellFormed_packAccess _ _ _
theorem irdOut2 : Statement .irdOut2 := wordWellFormed_packAccess _ _ _
theorem wrOut3 (data : Word) : Statement (.wrOut3 data) := wordWellFormed_packAccess _ _ _
theorem rdOut3 : Statement .rdOut3 := wordWellFormed_packAccess _ _ _
theorem irdOut3 : Statement .irdOut3 := wordWellFormed_packAccess _ _ _
theorem wrUnmapped (data : Word) : Statement (.wrUnmapped data) := wordWellFormed_packAccess _ _ _
theorem rdUnmapped : Statement .rdUnmapped := wordWellFormed_packAccess _ _ _
theorem irdUnmapped : Statement .irdUnmapped := wordWellFormed_packAccess _ _ _
theorem evReset : Statement .evReset := wordWellFormed_packEvent _ _ (by decide)
theorem evFrameSync (b : Bool) : Statement (.evFrameSync b) := wordWellFormed_packEvent _ _ (by decide)
theorem evDemand (b : Bool) : Statement (.evDemand b) := wordWellFormed_packEvent _ _ (by decide)
theorem evCrcError (b : Bool) : Statement (.evCrcError b) := wordWellFormed_packEvent _ _ (by decide)
theorem evFrameId (b : Bool) : Statement (.evFrameId b) := wordWellFormed_packEvent _ _ (by decide)
theorem evTick : Statement .evTick := wordWellFormed_packEvent _ _ (by decide)
theorem evPump : Statement .evPump := wordWellFormed_packEvent _ _ (by decide)

end WordOfInstr

end Sys2Proof.Laws
end

