-- ==== Sys2Proof/Laws/Transfer.lean ====
section
/-! SUPPORT. What the transfer tick can do. -/

namespace Sys2Proof.Machine

/-- Everything a tick can do: nothing, end the stream, fetch a word and send its first byte, or send the
second byte (44_mpeg_transfer.md R200). -/
theorem tick_cases (c : Config) (s : State) :
    ((s.mpeg.demand = false ∨ (s.mpeg.atEnd c = false ∧ s.mpeg.sends c = false)) ∧ s.tick c = s) ∨
    (s.mpeg.demand = true ∧ s.mpeg.atEnd c = true ∧
      s.tick c = s.withMpeg
        { s.mpeg with hasEnded := true, ctrl := clearBit s.mpeg.ctrl c.streamBit }) ∨
    (s.mpeg.atEnd c = false ∧ s.mpeg.sends c = true ∧ s.mpeg.pendingByteCount = 0 ∧
      s.tick c = (s.produceWord c).sendByte) ∨
    (s.mpeg.atEnd c = false ∧ s.mpeg.sends c = true ∧ s.mpeg.pendingByteCount ≠ 0 ∧
      s.tick c = s.sendByte) := by
  have hd : s.mpeg.sends c = true → s.mpeg.demand = true := by
    unfold MpegChannel.sends; cases s.mpeg.demand <;> simp
  cases h1 : s.mpeg.demand with
  | false => exact .inl ⟨.inl rfl, by simp [State.tick, h1]⟩
  | true =>
    cases h2 : s.mpeg.atEnd c with
    | true => exact .inr (.inl ⟨rfl, rfl, by simp [State.tick, h1, h2]⟩)
    | false =>
      cases h3 : s.mpeg.sends c with
      | false => exact .inl ⟨.inr ⟨rfl, rfl⟩, by simp [State.tick, h1, h2, h3]⟩
      | true =>
        by_cases h4 : s.mpeg.pendingByteCount = 0
        · exact .inr (.inr (.inl ⟨rfl, rfl, h4, by simp [State.tick, h1, h2, h3, h4]⟩))
        · exact .inr (.inr (.inr ⟨rfl, rfl, h4, by simp [State.tick, h1, h2, h3, h4]⟩))

/-- An advance never changes the variant (41_gate.md R109, 43_cipher.md R154, R155). -/
@[simp] theorem keyStep_variant (k : CipherState) : k.keyStep.variant = k.variant := by
  unfold CipherState.keyStep
  split <;> rfl

end Sys2Proof.Machine
end

