-- ==== Sys2Proof/Tests/Slice0.lean ====
section
/-! SUPPORT. Tests. The expected values are those of 95_test_vectors.md (its vector is named at each test) or
hand-made from the rule named. A board with the parameter values that file assumes is `testCfg`: they are
test choices, not facts about the hardware. Witnesses that the statements' hypotheses can be met stand at
the end. -/

open Sys2Proof Sys2Proof.Machine

namespace Sys2Proof.Tests

/-! ## Well-formedness refuses what is ill formed -/

theorem test_wf_refuses_reserved_selectors :
    wordWellFormed 0x1F0000 = false ∧ wordWellFormed 0x200000 = false ∧ wordWellFormed 0x7E0000 = false ∧
    wordWellFormed 0xDF0000 = false ∧ wordWellFormed 0x1E0000 = true ∧ wordWellFormed 0x3F0000 = true := by
  decide

theorem test_wf_refuses_reserved_events :
    wordWellFormed 0x870000 = false ∧ wordWellFormed 0xBF0000 = false ∧ wordWellFormed 0x860000 = true := by
  decide

theorem test_wf_refuses_narrow_access :
    HostAccess.widthOk { kind := .rd, addr := 0x0C, width := 8, data := 0 } = false ∧
    HostAccess.wellFormed { kind := .rd, addr := 0x0C, width := 8, data := 0 } = false ∧
    HostAccess.wellFormed { kind := .wr, addr := 0x0C, width := 32, data := 0 } = false := by decide

theorem test_wf_refuses_odd_address :
    HostAccess.aligned { kind := .rd, addr := 0x0D, width := 16, data := 0 } = false ∧
    HostAccess.wellFormed { kind := .rd, addr := 0x0D, width := 16, data := 0 } = false ∧
    HostAccess.wellFormed { kind := .rd, addr := 0x0C, width := 16, data := 0 } = true := by decide

/-! ## Decoding: words written out from the tables of 30_encoding.md R60, R63 and R64 -/

theorem test_decode_gate :
  decode 0x009C35 = .ok (.wrFwStatus 0x9C35) ∧
  decode 0x400000 = .ok .rdFwStatus ∧ decode 0xC09C35 = .ok .irdFwStatus ∧
  decode 0x01386A = .ok (.wrFwData 0x386A) ∧
  decode 0x410000 = .ok .rdFwData ∧ decode 0xC1386A = .ok .irdFwData := by decide

theorem test_decode_store :
  decode 0x02D49F = .ok (.wrRamWaddrHi 0xD49F) ∧
  decode 0x420000 = .ok .rdRamWaddrHi ∧ decode 0xC2D49F = .ok .irdRamWaddrHi ∧
  decode 0x0370D4 = .ok (.wrRamWaddrLo 0x70D4) ∧
  decode 0x430000 = .ok .rdRamWaddrLo ∧ decode 0xC370D4 = .ok .irdRamWaddrLo ∧
  decode 0x040D09 = .ok (.wrRamRaddrHi 0x0D09) ∧
  decode 0x440000 = .ok .rdRamRaddrHi ∧ decode 0xC40D09 = .ok .irdRamRaddrHi ∧
  decode 0x05A93E = .ok (.wrRamRaddrLo 0xA93E) ∧
  decode 0x450000 = .ok .rdRamRaddrLo ∧ decode 0xC5A93E = .ok .irdRamRaddrLo ∧
  decode 0x064573 = .ok (.wrRamData 0x4573) ∧
  decode 0x460000 = .ok .rdRamData ∧ decode 0xC64573 = .ok .irdRamData ∧
  decode 0x07E1A8 = .ok (.wrRamCtrl 0xE1A8) ∧
  decode 0x470000 = .ok .rdRamCtrl ∧ decode 0xC7E1A8 = .ok .irdRamCtrl := by decide

theorem test_decode_keys :
  decode 0x0CEEB1 = .ok (.wrMpegKey1 0xEEB1) ∧
  decode 0x4C0000 = .ok .rdMpegKey1 ∧ decode 0xCCEEB1 = .ok .irdMpegKey1 ∧
  decode 0x0D8AE6 = .ok (.wrMpegKey2 0x8AE6) ∧
  decode 0x4D0000 = .ok .rdMpegKey2 ∧ decode 0xCD8AE6 = .ok .irdMpegKey2 ∧
  decode 0x0E271B = .ok (.wrMpegKey3 0x271B) ∧
  decode 0x4E0000 = .ok .rdMpegKey3 ∧ decode 0xCE271B = .ok .irdMpegKey3 := by decide

theorem test_decode_transfer :
  decode 0x087DDD = .ok (.wrMpegStartHi 0x7DDD) ∧
  decode 0x480000 = .ok .rdMpegStartHi ∧ decode 0xC87DDD = .ok .irdMpegStartHi ∧
  decode 0x091A12 = .ok (.wrMpegStartLo 0x1A12) ∧
  decode 0x490000 = .ok .rdMpegStartLo ∧ decode 0xC91A12 = .ok .irdMpegStartLo ∧
  decode 0x0AB647 = .ok (.wrMpegEndHi 0xB647) ∧
  decode 0x4A0000 = .ok .rdMpegEndHi ∧ decode 0xCAB647 = .ok .irdMpegEndHi ∧
  decode 0x0B527C = .ok (.wrMpegEndLo 0x527C) ∧
  decode 0x4B0000 = .ok .rdMpegEndLo ∧ decode 0xCB527C = .ok .irdMpegEndLo ∧
  decode 0x0FC350 = .ok (.wrMpegStatus 0xC350) ∧
  decode 0x4F0000 = .ok .rdMpegStatus ∧ decode 0xCFC350 = .ok .irdMpegStatus ∧
  decode 0x105F85 = .ok (.wrMpegCtrl 0x5F85) ∧
  decode 0x500000 = .ok .rdMpegCtrl ∧ decode 0xD05F85 = .ok .irdMpegCtrl ∧
  decode 0x11FBBA = .ok (.wrTimerHi 0xFBBA) ∧
  decode 0x510000 = .ok .rdTimerHi ∧ decode 0xD1FBBA = .ok .irdTimerHi ∧
  decode 0x1297EF = .ok (.wrTimerLo 0x97EF) ∧
  decode 0x520000 = .ok .rdTimerLo ∧ decode 0xD297EF = .ok .irdTimerLo ∧
  decode 0x133424 = .ok (.wrTimerDiff 0x3424) ∧
  decode 0x530000 = .ok .rdTimerDiff ∧ decode 0xD33424 = .ok .irdTimerDiff := by decide

theorem test_decode_network :
  decode 0x1608C3 = .ok (.wrNetData 0x08C3) ∧
  decode 0x560000 = .ok .rdNetData ∧ decode 0xD608C3 = .ok .irdNetData ∧
  decode 0x17A4F8 = .ok (.wrNetOutSize 0xA4F8) ∧
  decode 0x570000 = .ok .rdNetOutSize ∧ decode 0xD7A4F8 = .ok .irdNetOutSize ∧
  decode 0x18412D = .ok (.wrNetInSize 0x412D) ∧
  decode 0x580000 = .ok .rdNetInSize ∧ decode 0xD8412D = .ok .irdNetInSize ∧
  decode 0x19DD62 = .ok (.wrNetReset 0xDD62) ∧
  decode 0x590000 = .ok .rdNetReset ∧ decode 0xD9DD62 = .ok .irdNetReset ∧
  decode 0x1A7997 = .ok (.wrNetId 0x7997) ∧
  decode 0x5A0000 = .ok .rdNetId ∧ decode 0xDA7997 = .ok .irdNetId := by decide

theorem test_decode_identity :
  decode 0x14D059 = .ok (.wrIdent 0xD059) ∧
  decode 0x540000 = .ok .rdIdent ∧ decode 0xD4D059 = .ok .irdIdent ∧
  decode 0x156C8E = .ok (.wrIdBank 0x6C8E) ∧
  decode 0x550000 = .ok .rdIdBank ∧ decode 0xD56C8E = .ok .irdIdBank := by decide

theorem test_decode_outputs :
  decode 0x1B15CC = .ok (.wrOut0 0x15CC) ∧
  decode 0x5B0000 = .ok .rdOut0 ∧ decode 0xDB15CC = .ok .irdOut0 ∧
  decode 0x1CB201 = .ok (.wrOut1 0xB201) ∧
  decode 0x5C0000 = .ok .rdOut1 ∧ decode 0xDCB201 = .ok .irdOut1 ∧
  decode 0x1D4E36 = .ok (.wrOut2 0x4E36) ∧
  decode 0x5D0000 = .ok .rdOut2 ∧ decode 0xDD4E36 = .ok .irdOut2 ∧
  decode 0x1EEA6B = .ok (.wrOut3 0xEA6B) ∧
  decode 0x5E0000 = .ok .rdOut3 ∧ decode 0xDEEA6B = .ok .irdOut3 := by decide

theorem test_decode_unmapped :
  decode 0x3F0D40 = .ok (.wrUnmapped 0x0D40) ∧
  decode 0x7F0000 = .ok .rdUnmapped ∧ decode 0xFF0D40 = .ok .irdUnmapped := by decide

theorem test_decode_events :
  decode 0x800001 = .ok (.evReset) ∧
  decode 0x810001 = .ok (.evFrameSync true) ∧
  decode 0x820001 = .ok (.evDemand true) ∧
  decode 0x830001 = .ok (.evCrcError true) ∧
  decode 0x840001 = .ok (.evFrameId true) ∧
  decode 0x850001 = .ok (.evTick) ∧
  decode 0x860001 = .ok (.evPump) ∧
  decode 0x82FFFE = .ok (.evDemand false) := by decide

/-- R65, R66: what spells no operation. -/
theorem test_decode_reserved :
    decode 0x200000 = .error .selector ∧ decode 0x1F0000 = .error .selector ∧
    decode 0x7E0000 = .error .selector ∧ decode 0xE00000 = .error .selector ∧
    decode 0x870000 = .error .event ∧ decode 0xBF0000 = .error .event := by decide

/-- R60: the fields' places. -/
theorem test_encode_fields :
    encode (.wrRamData 0xCAFE) = 0x06CAFE ∧ encode .rdMpegCtrl = 0x500000 ∧
    encode .irdIdent = 0xD40000 ∧ encode (.evDemand true) = 0x820001 ∧ encode .evPump = 0x860000 := by
  decide

/-! ## A board, states, and what is looked at -/

/-- The parameter values of 95_test_vectors.md's table; every bus slot at its own number. -/
def testCfg : Config :=
  { fwChecksum := fun _ => 0, altChecksum := 1, storeLast := 0xFF, storeEn := true, morePorts := 1,
    addrSlot := Equiv.refl _, moreBank := fun a => decide (a.val = 100), ctrlPlace := Equiv.refl _,
    statPlace := Equiv.refl _, altTimerHi := 0xABCD, pumpHz := 60 }

/-- The same board, whose image checksum selects the Alternate variant. -/
def altCfg : Config := { testCfg with altChecksum := 0 }

/-- The same board with its store disabled. -/
def disabledCfg : Config := { testCfg with storeEn := false }

/-- What is looked at in the next state; none if there is none. -/
def after {α : Type} (r : Result) (f : State → α) : Option α :=
  match r with
  | .next t => some (f t)
  | .fault _ => none
  | .refused _ => none

/-- `Open(Default)` of an all-zero image. -/
def opened : State := State.launchOpen testCfg []

/-- `Open(Alternate)` of the same image. -/
def openedAlt : State := State.launchOpen altCfg []

/-- R342: they are launch states, and the checksum alone decides of which variant. -/
theorem test_launch_states :
    OpenLaunch testCfg .default opened ∧ OpenLaunch altCfg .alternate openedAlt ∧
    ∀ s, ¬ OpenLaunch testCfg .alternate s :=
  ⟨⟨[], by decide, by decide, rfl⟩, ⟨[], by decide, by decide, rfl⟩,
    fun _ ⟨_, _, h, _⟩ => nomatch h⟩

/-- A store that holds the words given by byte address. -/
def storeOf (ws : List (Nat × Word)) : Memory := ws.foldl (fun m p => m.writeWord p.1 p.2) []

def withStore (f : AddressWindow → AddressWindow) (s : State := opened) : State :=
  { s with store := f s.store }
def withMpeg (f : MpegChannel → MpegChannel) (s : State := opened) : State := { s with mpeg := f s.mpeg }
def withNet (f : NetState → NetState) (s : State := opened) : State := { s with net := f s.net }
def withLatch (t : Fin 8) (v : BitVec 4) : State := { opened with out := opened.out.set t v }
def withEnv (e : Env) (s : State := opened) : State := { s with env := e }

/-! ## Bus and step -/

/-- V10, `rd FW_STATUS` after power-on. -/
theorem test_step_reads_status :
    after (step (State.reset.withFetchWord 24 0x400000)) (fun t => (t.returned, t.pending)) =
      some (some 0x8000, []) := by decide

/-- V9: a reserved selector and a reserved event. -/
theorem test_step_refuses_reserved :
    after (step (State.reset.withFetchWord 24 0x200000)) (fun t => t.refused) =
      some (some .reservedSelector) ∧
    after (step (State.reset.withFetchWord 24 0x870000)) (fun t => t.refused) =
      some (some .reservedEvent) := by decide

/-- R40, R61: slot 6 is RAM_DATA on the test board, slot 31 is unmapped, slot 100 is more ID_BANK. -/
theorem test_host_access_maps_to_operation :
    requestInstr testCfg (.access { kind := .wr, addr := 0x0C, width := 16, data := 0xCAFE }) =
      .ok (.wrRamData 0xCAFE) ∧
    requestInstr testCfg (.access { kind := .rd, addr := 0x3E, width := 16, data := 0 }) =
      .ok .rdUnmapped ∧
    requestInstr testCfg (.access { kind := .ird, addr := 0xC8, width := 16, data := 0 }) =
      .ok .irdIdBank := by decide

/-- R47. -/
theorem test_host_access_refused :
    requestInstr testCfg (.access { kind := .rd, addr := 0x0D, width := 16, data := 0 }) =
      .error .badWidthOrAlignment ∧
    requestInstr testCfg (.access { kind := .rd, addr := 0x0C, width := 8, data := 0 }) =
      .error .badWidthOrAlignment := by decide

/-- V9: undescribed directions with the gate open. -/
theorem test_undescribed_open :
    after (exec .rdMpegKey1 opened) (fun t => t.refused) = some (some (.undocumentedAccess .mpegKey1 .rd)) ∧
    after (exec (.wrTimerHi 0) opened) (fun t => t.refused) =
      some (some (.undocumentedAccess .timerHi .wr)) ∧
    after (exec .rdRamCtrl opened) (fun t => t.refused) = some (some (.undocumentedAccess .ramCtrl .rd)) ∧
    after (exec .rdIdBank opened) (fun t => t.refused) = some (some .identityBank) := by decide

/-- V9, V1, W1: the same with the gate closed. -/
theorem test_reads_closed :
    after (exec .rdRamCtrl State.reset) (fun t => (t.refused, t.returned)) = some (none, some 0xFFFF) ∧
    after (exec .rdIdBank State.reset) (fun t => t.returned) = some (some 0xFFFF) ∧
    after (exec .rdFwData State.reset) (fun t => t.returned) = some (some 0xFFFF) ∧
    after (exec .rdNetInSize State.reset) (fun t => t.returned) = some (some 0xFFFF) ∧
    after (exec .rdIdent State.reset) (fun t => t.returned) = some (some 0xFFFF) := by decide

/-- V9. -/
theorem test_unmapped :
    after (exec .rdUnmapped opened) (fun t => t.returned) = some (some 0xFFFF) ∧
    after (exec .irdUnmapped State.reset) (fun t => t.returned) = some (some 0xFFFF) ∧
    exec (.wrUnmapped 1) opened = .next opened := ⟨by decide, by decide, rfl⟩

/-- R84: a refused run is over. -/
theorem test_refused_run :
    exec .evPump { opened with refused := some .identityBank } = .refused .runRefused := rfl

/-! ## The gate -/

/-- V1's table of single writes from power-on: stored status and `preInit`. -/
theorem test_status_write_closed :
    [0x8000, 0x2000, 0x9000, 0x1000, 0x4000, 0x0800, 0xF000].map
      (fun d => after (execWrFwStatus d State.reset) fun t => (t.fw.status, t.fw.preInit)) =
    [some (0x1000, true), some (0x1000, true), some (0x0000, true), some (0x0000, true),
     some (0x0000, true), some (0x0000, false), some (0x0000, true)] := by decide

/-- V1: `0xC000` keeps the gate open, `0x1000` resets it and is stored. -/
theorem test_status_write_open :
    after (execWrFwStatus 0xC000 opened) (fun t => (t.fw.status, t.fw.initialized)) = some (0xC000, true) ∧
    after (execWrFwStatus 0x1000 opened)
      (fun t => (t.fw.status, t.fw.initialized, t.fw.preInit, t.fw.bitsReceived)) =
        some (0x1000, false, false, 0) := by decide

/-- V1: `0xB000` while open. -/
theorem test_status_read :
    after (execRdFwStatus opened) (fun t => t.returned) = some (some 0xB000) ∧
    after (execIrdFwStatus opened) (fun t => t.returned) = some (some 0xB000) := by decide

/-- V1: not accepted from power-on; the eighth bit of 0x81 stores the byte. -/
theorem test_firmware_bit :
    after (execWrFwData 0x8000 State.reset testCfg) (fun t => t.fw) = some State.reset.fw ∧
    after (execWrFwData 0x8000
      { State.reset with fw := { State.reset.fw with
          status := 0x1000, preInit := true, bitsReceived := 7, pendingByte := 0x80 } } testCfg)
      (fun t => (t.fw.image, t.fw.bitsReceived, t.fw.pendingByte)) = some ([(0, 0x81)], 8, 0) := by decide

/-- A state one bit before the load completes. -/
def almostLoaded : State :=
  { State.reset with fw := { State.reset.fw with
      status := 0x1000, preInit := true, bitsReceived := 330695, image := [(5, 0x42)] } }

/-- W2, rows 3 and 4. -/
theorem test_load_completes :
    after (execWrFwData 0 almostLoaded testCfg)
      (fun t => (t.fw.status, t.fw.initialized, t.fw.bitsReceived)) = some (0x7000, true, 330696) ∧
    after (execRdMpegCtrl almostLoaded testCfg) (fun t => t.returned) = some (some 0xFFFF) := by decide

/-- R106: the checksum selects the variant. -/
theorem test_load_selects_variant :
    after (execWrFwData 0 almostLoaded { testCfg with altChecksum := 0 }) (fun t => t.cipher.variant) =
      some .alternate ∧
    after (execWrFwData 0 almostLoaded testCfg) (fun t => t.cipher.variant) = some .default := by decide

/-- V10 and R321: the controller reset keeps the trace, and emits nothing. -/
theorem test_controller_reset :
    after (execEvReset { (withLatch 0 0xF) with trace := [.byteSink 1] })
      (fun t => (t.out.get 0, t.fw, t.trace)) = some (0, FirmwareLoad.reset, [.byteSink 1]) := by decide

/-! ## The store -/

/-- V2 and W3: the cursor halves. -/
theorem test_cursor_halves :
    after (execWrRamWaddrHi 0xFE01 (withStore fun w => { w with writeAddr := 0x1234 }))
      (fun t => t.store.writeAddr) = some 0x00011234 ∧
    after (execWrRamWaddrLo 0x0003 opened) (fun t => t.store.writeAddr) = some 0x00000002 := by decide

/-- V2: the read cursor refreshes the latch. -/
theorem test_read_cursor_refreshes :
    after (execWrRamRaddrLo 0x01FF (withStore fun w => { w with words := storeOf [(0x1FE, 0x1111)] }) testCfg)
      (fun t => (t.store.readAddr, t.store.lastValidRead)) = some (0x1FE, 0x1111) ∧
    after (execWrRamRaddrHi 1 (withStore fun w => { w with lastValidRead := 0x7777 }) testCfg)
      (fun t => (t.store.readAddr, t.store.lastValidRead)) = some (0x10000, 0x7777) := by decide

/-- V2: a read past the end returns the latch, and wraps at the mask. -/
theorem test_data_read :
    after (execRdRamData (withStore fun w =>
        { w with words := storeOf [(0, 0x4242)], readAddr := 0x01FFFFFE }) testCfg)
      (fun t => (t.returned, t.store.readAddr, t.store.lastValidRead)) = some (some 0, 0, 0x4242) ∧
    after (execRdRamData (withStore fun w =>
        { w with words := storeOf [(0x1FC, 0xAAAA), (0x1FE, 0xBBBB)], readAddr := 0x1FC }) testCfg)
      (fun t => (t.returned, t.store.readAddr, t.store.lastValidRead)) =
        some (some 0xAAAA, 0x1FE, 0xBBBB) := by decide

/-- V2: disabled, and the inspection read. -/
theorem test_data_read_disabled_and_inspected :
    after (execRdRamData (withStore fun w => { w with words := storeOf [(0, 7)] }) disabledCfg)
      (fun t => (t.returned, t.store.readAddr)) = some (some 0, 0) ∧
    after (execIrdRamData (withStore fun w =>
        { w with words := storeOf [(0x1FE, 0x1111)], readAddr := 0x1FE }) testCfg)
      (fun t => (t.returned, t.store.readAddr)) = some (some 0x1111, 0x1FE) := by decide

/-- V2: a write at the last word and past it. -/
theorem test_data_write :
    after (execWrRamData 0x1111 (withStore fun w => { w with writeAddr := 0x1FE }) testCfg)
      (fun t => (t.store.words, t.store.writeAddr)) = some ([(0x1FE, 0x11), (0x1FF, 0x11)], 0x200) ∧
    after (execWrRamData 0x2222 (withStore fun w => { w with writeAddr := 0x200 }) testCfg)
      (fun t => (t.store.words, t.store.writeAddr)) = some ([], 0x202) := by decide

/-- V2: a disabled store takes nothing. -/
theorem test_data_write_disabled :
    after (execWrRamData 5 opened disabledCfg) (fun t => t.store) = some opened.store := by decide

/-! ## The cipher -/

/-- V3's table: keys, word, output, keys after. -/
theorem test_default_cipher :
    ([ (0x0000, 0x0000, 0x01, 0x0000), (0x0000, 0x0000, 0xFF, 0x1234), (0x0004, 0x0000, 0x00, 0x0001),
       (0xFFFF, 0x0000, 0x00, 0x0000), (0x8000, 0x0001, 0x10, 0x5A5A), (0x4000, 0x8001, 0x00, 0x0000),
       (0x1234, 0x5678, 0x9A, 0xBEEF), (0x0004, 0x0004, 0x55, 0x0F0F), (0x7FFF, 0x8000, 0x01, 0x8000) ] :
        List (Word × Word × Byte × Word)).map (fun p =>
      let r := CipherState.advance { key1 := p.1, key2 := p.2.1, key3 := p.2.2.1, variant := .default }
        p.2.2.2
      (r.1, r.2.key1, r.2.key2, r.2.key3)) =
    [ (0x4002, 0x0000, 0x0000, 0x02), (0xEDCB, 0x0000, 0x0000, 0x00), (0x0002, 0x0008, 0x0000, 0x01),
      (0x5555, 0xFFFF, 0x0000, 0x01), (0x981B, 0x8000, 0x0002, 0x11), (0x0001, 0x0001, 0x0003, 0x01),
      (0x2966, 0x2468, 0x5678, 0x9B), (0x6969, 0x0008, 0x0004, 0x56), (0x5557, 0x7FFF, 0x0001, 0x02) ] := by
  decide

/-- One Alternate advance: the word, `key1` and `key3` after. -/
def altAdvance (k1 : Word) (k3 : Byte) (w : Word) : Word × Word × Byte :=
  let r := CipherState.advance { key1 := k1, key2 := 0x1234, key3 := k3, variant := .alternate } w
  (r.1, r.2.key1, r.2.key3)

/-- V4's table: `key1`, `key3`, word, output. -/
theorem test_alternate_cipher :
    altAdvance 0x0000 0x00 0x1234 = (0x1234, 0x0000, 0x01) ∧
    altAdvance 0xFFFF 0x00 0x0000 = (0x5555, 0xFFFF, 0x01) ∧
    altAdvance 0xFFFF 0x00 0xFFFF = (0xAAAA, 0xFFFF, 0x01) ∧
    altAdvance 0x0001 0x01 0x0002 = (0x0001, 0x0001, 0x02) ∧
    altAdvance 0x00B1 0x00 0x1234 = (0x1225, 0x00B1, 0x01) ∧
    altAdvance 0x00D1 0x0F 0xA5A5 = (0x65D9, 0x00D1, 0x10) ∧
    altAdvance 0x00B1 0xFF 0x0000 = (0x0050, 0x00B1, 0x00) ∧
    altAdvance 0x8000 0x00 0x0003 = (0x0003, 0x8000, 0x01) ∧
    altAdvance 0x0001 0x00 0x0001 = (0x0000, 0x0001, 0x01) :=
  ⟨by decide, by decide, by decide, by decide, by decide, by decide, by decide, by decide,
    by decide⟩

/-- V4's key tables. -/
theorem test_alternate_key_table :
    altKeyTable 0x00B1 = [0x05, 0x18, 0x0A, 0x30, 0x14, 0x60, 0x28, 0xC0, 0x50, 0x81, 0xA0, 0x03, 0x41, 0x06,
      0x82, 0x0C] ∧
    altKeyTable 0x1234 = [0x46, 0x28, 0x8C, 0x50, 0x19, 0xA0, 0x32, 0x41, 0x64, 0x82, 0xC8, 0x05, 0x91, 0x0A,
      0x23, 0x14] := by decide

/-- V3's helper values. -/
theorem test_cipher_helpers :
    counterMask 0x55 = 0x6666 ∧ counterMask 0x80 = 0x8001 ∧ pairSwap 0x0001 0x0004 = 0x0002 ∧
    maskXor 0xFFFF = 0x5555 ∧ maskXor 0x2000 = 0x4000 := by decide

/-- V5. -/
theorem test_key_registers :
    after (execWrMpegKey1 0x1234 opened) (fun t => t.cipher.key1) = some 0x1234 ∧
    after (execWrMpegKey2 0x5678 opened) (fun t => t.cipher.key2) = some 0x5678 ∧
    after (execWrMpegKey3 0x019A opened) (fun t => t.cipher.key3) = some 0x9A ∧
    after (execWrMpegKey1 0xBEEF State.reset) (fun t => t.cipher) = some CipherState.reset := by decide

/-! ## The transfer engine -/

/-- R180 to R183: the halves, masked. -/
theorem test_transfer_addresses :
    after (execWrMpegStartHi 0xFE01 (withMpeg fun m => { m with currentAddr := 0x1234 }))
      (fun t => t.mpeg.currentAddr) = some 0x00011234 ∧
    after (execWrMpegStartLo 0x0005 opened) (fun t => t.mpeg.currentAddr) = some 0x4 ∧
    after (execWrMpegEndHi 0x0001 opened) (fun t => t.mpeg.endAddr) = some 0x10000 ∧
    after (execWrMpegEndLo 0xFFFF opened) (fun t => t.mpeg.endAddr) = some 0xFFFE := by decide

/-- A stream of the given control word, from 0 to `e`. -/
def streaming (ctrl : Word) (e : Addr) : State :=
  withMpeg fun m => { m with ctrl := ctrl, endAddr := e, demand := true }

/-- V6, first row: the fetch, the decryption, and the first byte. -/
theorem test_tick_sends :
    after (execEvTick { (streaming 3 2) with
        cipher := { key1 := 0x1234, key2 := 0x5678, key3 := 0x9A, variant := .default },
        store := { opened.store with words := storeOf [(0, 0xBEEF)] } } testCfg)
      (fun t => (t.trace, t.mpeg.pendingWord, t.mpeg.pendingByteCount, t.mpeg.currentAddr, t.cipher.key1)) =
        some ([.byteSink 0x29], 0x66, 1, 2, 0x2468) := by decide

/-- V6: the second byte is sent though the addresses are equal; the end needs no `Mp`; no demand, nothing. -/
theorem test_tick_ends :
    after (execEvTick { (streaming 3 0) with mpeg := { (streaming 3 0).mpeg with
        pendingWord := 0x66, pendingByteCount := 1 } } testCfg)
      (fun t => (t.trace, t.mpeg.pendingByteCount, t.mpeg.hasEnded)) = some ([.byteSink 0x66], 0, false) ∧
    after (execEvTick (streaming 1 0) testCfg) (fun t => (t.trace, t.mpeg.ctrl, t.mpeg.hasEnded)) =
      some ([], 0, true) ∧
    after (execEvTick (withMpeg fun m => { m with ctrl := 3, endAddr := 4 }) testCfg)
      (fun t => (t.trace, t.mpeg.currentAddr)) = some ([], 0) := by decide

/-- V6: `rd MPEG_CTRL` of a stream. -/
theorem test_ctrl_read :
    after (execRdMpegCtrl (streaming 3 4) testCfg) (fun t => t.returned) = some (some 0x1003) ∧
    after (execIrdMpegCtrl (streaming 0x1002 4) testCfg) (fun t => t.returned) = some (some 0x0002) := by
  decide

/-- V6: the rising edge of both enables, and its absence under the Alternate variant (R207). -/
theorem test_ctrl_write_edge :
    after (execWrMpegCtrl 3 (withMpeg fun m => { m with ctrl := 1, sampleCounter := 7 }) testCfg)
      (fun t => t.mpeg.sampleCounter) = some 0 ∧
    after (execWrMpegCtrl 3 (withMpeg (fun m => { m with ctrl := 1, sampleCounter := 7 }) openedAlt) altCfg)
      (fun t => t.mpeg.sampleCounter) = some 7 ∧
    after (execWrMpegCtrl 3 (withMpeg fun m => { m with ctrl := 3, sampleCounter := 7 }) testCfg)
      (fun t => t.mpeg.sampleCounter) = some 7 := by decide

/-- V6: `Mp` falls after the end. -/
theorem test_ctrl_write_clears_end :
    after (execWrMpegCtrl 0 (withMpeg fun m => { m with ctrl := 2, hasEnded := true, frameCounter := 9 })
        testCfg)
      (fun t => (t.mpeg.hasEnded, t.mpeg.frameCounter, t.trace)) = some (false, 0, [.resetMpegState]) := by
  decide

/-- V6's status reads. -/
theorem test_status_word :
    after (execRdMpegStatus opened testCfg) (fun t => t.returned) = some (some 0x0008) ∧
    after (execIrdMpegStatus (withMpeg fun m => { m with demand := true }) testCfg) (fun t => t.returned) =
      some (some 0x0009) ∧
    after (execRdMpegStatus (withMpeg fun m => { m with demand := true, crcError := true, playing := true })
      testCfg) (fun t => t.returned) = some (some 0x000F) ∧
    execWrMpegStatus 0xFFFF opened = .next opened := ⟨by decide, by decide, by decide, rfl⟩

/-- A state with the two counters. -/
def timers (n l : BitVec 32) (s : State := opened) : State :=
  withMpeg (fun m => { m with sampleCounter := n, sampleCounterLatched := l }) s

/-- V6's timer reads from set values. -/
theorem test_timer_reads :
    after (execRdTimerHi (timers 0x10005 0) testCfg)
      (fun t => (t.returned, t.mpeg.sampleCounterLatched)) = some (some 1, 0x10005) ∧
    after (execRdTimerLo (timers 0x10005 0))
      (fun t => (t.returned, t.mpeg.sampleCounterLatched)) = some (some 5, 0x10005) ∧
    after (execRdTimerDiff (timers 0x20010 0x1FFF0))
      (fun t => (t.returned, t.mpeg.sampleCounter, t.mpeg.sampleCounterLatched)) =
        some (some 0x20, 0x10, 0xFFF0) ∧
    after (execRdTimerHi (timers 0x10005 0 openedAlt) altCfg)
      (fun t => (t.returned, t.mpeg.sampleCounterLatched)) = some (some 0xABCD, 0) := by decide

/-- V6, R198: the inspection reads latch and clear nothing. -/
theorem test_timer_inspections :
    after (execIrdTimerHi (timers 0x10005 0) testCfg)
      (fun t => (t.returned, t.mpeg.sampleCounterLatched)) = some (some 1, 0) ∧
    after (execIrdTimerLo (timers 0x10005 0))
      (fun t => (t.returned, t.mpeg.sampleCounterLatched)) = some (some 5, 0) ∧
    after (execIrdTimerDiff (timers 0x20010 0x1FFF0)) (fun t => (t.returned, t.mpeg.sampleCounter)) =
      some (some 0x20, 0x20010) := by decide

/-- V6: `wr TIMER_LO` while streaming, and not streaming. -/
theorem test_timer_write :
    after (execWrTimerLo 0 (streaming 3 4) testCfg) (fun t => t.mpeg.timerEnabled) = some true ∧
    after (execWrTimerLo 0xFFFF (withMpeg fun m => { m with timerEnabled := true, sampleCounter := 9 }) testCfg)
      (fun t => (t.mpeg.timerEnabled, t.mpeg.sampleCounter)) = some (false, 0) := by decide

/-- V6's frame-sync rows. -/
theorem test_frame_sync :
    after (execEvFrameSync true (withMpeg fun m => { m with ctrl := 6 }) testCfg)
      (fun t => (t.mpeg.playing, t.mpeg.timerEnabled, t.mpeg.frameCounter)) = some (true, true, 1) ∧
    after (execEvFrameSync true State.reset testCfg)
      (fun t => (t.mpeg.playing, t.mpeg.frameCounter)) = some (true, 0) := by decide

/-- V6, R205: the three conditions of the sample count. -/
theorem test_frame_ident :
    after (execEvFrameId true (withMpeg fun m => { m with ctrl := 6, timerEnabled := true }) testCfg)
      (fun t => t.mpeg.sampleCounter) = some 1 ∧
    after (execEvFrameId false (withMpeg fun m => { m with ctrl := 6, timerEnabled := true }) testCfg)
      (fun t => t.mpeg.sampleCounter) = some 0 := by decide

/-- V6, R204, R206: with the gate closed. -/
theorem test_demand_and_crc :
    after (execEvDemand true State.reset) (fun t => t.mpeg.demand) = some true ∧
    after (execEvCrcError true State.reset) (fun t => t.mpeg.crcError) = some true := by decide

/-! ## The network -/

/-- V7's framer table. -/
theorem test_framer :
    framesOf [] [0xC0, 0xC0] = ([], [0xC0]) ∧ framesOf [] [0xC0, 0x41, 0xC0] = ([[0xC0, 0x41, 0xC0]], []) ∧
    framesOf [] [0xC0, 0x01, 0xC0, 0x02, 0xC0] = ([[0xC0, 0x01, 0xC0]], [0xC0]) ∧
    framesOf [] [0x41, 0xC0, 0x41] = ([], [0xC0, 0x41]) ∧
    framesOf [] [0xC0, 0x01, 0x02, 0xC0, 0xC0, 0x03, 0xC0] =
      ([[0xC0, 0x01, 0x02, 0xC0], [0xC0, 0x03, 0xC0]], []) := by decide

/-- P2, row 7, and row 2. -/
theorem test_net_write :
    after (execWrNetData 0xFFC0 (withNet fun n => { n with outputFrame := [0xC0, 0x01, 0x02] }))
      (fun t => (t.net.outputFrame, t.net.outputQueue, t.net.outputByteCount)) =
        some ([], [[0xC0, 0x01, 0x02, 0xC0]], 4) ∧
    after (execWrNetData 0x55 opened) (fun t => t.net.outputFrame) = some [] := by decide

/-- W8 and P2: the inbound queue is read from its front; empty reads 0. -/
theorem test_net_read :
    after (execRdNetData (withNet fun n => { n with muxedInput := [0xC0, 0x07] }))
      (fun t => (t.returned, t.net.muxedInput)) = some (some 0xC0, [0x07]) ∧
    after (execIrdNetData (withNet fun n => { n with muxedInput := [0xC0, 0x07] }))
      (fun t => (t.returned, t.net.muxedInput)) = some (some 0xC0, [0xC0, 0x07]) ∧
    after (execRdNetData opened) (fun t => t.returned) = some (some 0) := by decide

/-- V7: the size registers. -/
theorem test_net_sizes :
    after (execRdNetInSize (withNet fun n => { n with muxedInput := [0xC0, 0x07, 0xC0] }))
      (fun t => t.returned) = some (some 3) ∧
    after (execIrdNetInSize opened) (fun t => t.returned) = some (some 0) ∧
    after (execRdNetOutSize (withNet fun n => { n with outputByteCount := 7 })) (fun t => t.returned) =
      some (some 7) ∧
    after (execIrdNetOutSize opened) (fun t => t.returned) = some (some 0) := by decide

/-- V7: the network reset keeps the local id; all 16 bits of the id are kept. -/
theorem test_net_reset_and_id :
    after (execWrNetReset 0 (withNet fun n =>
        { n with muxedInput := [1], outputFrame := [0xC0], inputFrame := [(1, [0xC0])], localId := 5,
                 outputQueue := [[0xC0, 1, 0xC0]], outputByteCount := 3 })) (fun t => t.net) =
      some { NetState.reset with localId := 5 } ∧
    after (execWrNetId 0x0105 opened) (fun t => t.net.localId) = some 0x0105 := by decide

/-- Both ports connected, with the bytes they supply. -/
def ports (b0 b1 : List Byte) : Env := { idLine := false, links := [⟨true, b0⟩, ⟨true, b1⟩] }

/-- W7, and V7's two-port pump. -/
theorem test_pump_inbound :
    after (execEvPump (withEnv (ports [0xC0, 0x05, 0xAA, 0xC0] [])
        (withNet fun n => { n with localId := 5 })) testCfg) (fun t => t.net.muxedInput) = some [] ∧
    after (execEvPump (withEnv (ports [0xC0, 0x05] [0xC0, 0x09, 0x01, 0xC0])
        (withNet fun n => { n with localId := 0x0105 })) testCfg)
      (fun t => (t.net.muxedInput, t.net.inputFrame)) =
        some ([0xC0, 0x09, 0x01, 0xC0], [(0, [0xC0, 0x05])]) := by decide

/-- W9 on a short frame: byte by byte to every connected port; one frame a pump. -/
theorem test_pump_outbound :
    after (execEvPump (withEnv (ports [] []) (withNet fun n =>
        { n with outputQueue := [[0xC0, 0x01, 0xC0], [0xC0, 0x02, 0x03, 0xC0]], outputByteCount := 7 })) testCfg)
      (fun t => (t.trace, t.net.outputQueue, t.net.outputByteCount)) =
        some ([.portWrite 0 0xC0, .portWrite 1 0xC0, .portWrite 0 0x01, .portWrite 1 0x01,
          .portWrite 0 0xC0, .portWrite 1 0xC0], [[0xC0, 0x02, 0x03, 0xC0]], 4) ∧
    after (execEvPump (withEnv (ports [0xC0, 0x07, 0x41, 0xC0] []) State.reset) testCfg)
      (fun t => t.net.muxedInput) = some [] := by decide

/-! ## Identity and outputs -/

/-- V8's identity rows. -/
theorem test_identity_reads :
    after (execRdIdent (withEnv { idLine := true, links := [] })) (fun t => (t.returned, t.ident.cache)) =
      some (some 0x1100, 0x1100) ∧
    after (execRdIdent opened) (fun t => t.returned) = some (some 0x0100) ∧
    after (execIrdIdent { opened with ident := { cache := 0x1100 } }) (fun t => t.returned) =
      some (some 0x1100) := by decide

/-- V8. -/
theorem test_identity_writes :
    after (execWrIdent 0x1000 opened) (fun t => t.trace) = some [.identityLine false] ∧
    after (execWrIdent 0xEFFF opened) (fun t => t.trace) = some [.identityLine true] := by decide

/-- V8's edges from latches of 0. -/
theorem test_output_edges :
    after (execWrOut0 0x1000 opened) (fun t => t.trace) = some [.edge 0 true] ∧
    after (execWrOut1 0xB000 opened) (fun t => t.trace) = some [.edge 4 true, .edge 6 true, .edge 7 true] ∧
    after (execWrOut2 0xF000 opened) (fun t => t.trace) =
      some [.edge 8 true, .edge 9 true, .edge 10 true, .edge 11 true] ∧
    after (execWrOut3 0x4000 opened) (fun t => t.trace) = some [.edge 13 true] := by decide

/-- V8: only changes make edges; the latch takes the nibble. -/
theorem test_output_changes :
    after (execWrOut1 0x6000 (withLatch 1 0xB)) (fun t => (t.trace, t.out.get 1)) =
      some ([.edge 4 false, .edge 5 true, .edge 6 false], 0x6) ∧
    after (execWrOut2 0xF123 (withLatch 2 0xF)) (fun t => t.trace) = some [] ∧
    after (execWrOut3 0x0FFF (withLatch 3 0x4)) (fun t => t.trace) = some [.edge 13 false] := by decide

/-! ## Syntax -/

/-- R68, R69. -/
theorem test_text_and_pseudo :
    wordText 0x06CAFE true = "wr RAM_DATA, #51966" ∧ instrText .evPump = "ev EV_PUMP" ∧
    fwbyte 0x81 = [.wrFwData 0x8000, .wrFwData 0, .wrFwData 0, .wrFwData 0, .wrFwData 0, .wrFwData 0,
      .wrFwData 0, .wrFwData 0x8000] ∧
    wr32MpegEnd 0x00120034 = [.wrMpegEndHi 0x0012, .wrMpegEndLo 0x0034] := by decide

/-! ## Witnesses: the hypotheses of the statements can be met

Each theorem is named for the statement (or statements) whose hypotheses it meets. -/

/-- The hypotheses "not refused, gate open": StatusWriteWhileOpen, CursorHalvesSet,
DataReadReturnsWordOrStaleValue, KeyRegistersLoadKeys, TransferAddressesSet, ControlWriteActs,
ControlReadReportsStreaming, StatusReadsFourBits, TimerReadsLatchAndClear, TimerWriteClearsCounters,
NetworkReads, NetworkResetAndId, IdentityReadsAndDrives, OutputWriteEmitsEdges; and the open clause of
BankAndFirmwareDataReads and PumpSendsOldestFrame. -/
theorem witness_live : opened.refused = none ∧ opened.fw.initialized = true := by decide

/-- "Not refused, gate closed": StatusWriteWhileClosed and the closed clauses; "not refused" alone:
UnmappedReadsAllOnes, FirmwareStatusReads, TickSendsOneByte, DecoderCallbacksAct,
ControllerResetRestoresPowerOn. -/
theorem witness_closed : State.reset.refused = none ∧ State.reset.fw.initialized = false := by decide

/-- DecoderTotalAndIgnoresIgnoredBits, at the ends of the reserved ranges, for each clause on ignored bits,
and for the callbacks' level at both ends of their ids. -/
theorem witness_DecoderTotalAndIgnoresIgnoredBits :
    (decode 0x1E0000 = .ok (.wrOut3 0) ∧ decode 0x1F0000 = .error .selector ∧
      decode 0x3E0000 = .error .selector ∧ decode 0x3F0000 = .ok (.wrUnmapped 0)) ∧
    (decode 0x860000 = .ok .evPump ∧ decode 0x870000 = .error .event) ∧
    (decode 0x46FFFF = decode 0x460000 ∧ decode 0xC6FFFF = decode 0xC60000 ∧
      decode 0x82FFFF = decode 0x820001 ∧ decode 0x80FFFF = decode 0x800000 ∧
      decode 0x85FFFF = decode 0x850000 ∧ decode 0x86FFFF = decode 0x860000) ∧
    (decode 0x81FFFE = .ok (.evFrameSync false) ∧ decode 0x810001 = .ok (.evFrameSync true) ∧
      decode 0x840000 = .ok (.evFrameId false) ∧ decode 0x84FFFF = .ok (.evFrameId true)) := by decide

/-- StepPerformsDecodedWord: nothing delivered; a word that decodes; a reserved selector; a reserved event. -/
theorem witness_StepPerformsDecodedWord :
    (State.reset.refused = none ∧ State.reset.pending = []) ∧
    ((opened.withFetchWord 24 0x06CAFE).refused = none ∧
      (opened.withFetchWord 24 0x06CAFE).pending = [{ request := .word 0x06CAFE, env := opened.env }] ∧
      decode 0x06CAFE = .ok (.wrRamData 0xCAFE)) ∧
    decode 0x200000 = .error .selector ∧ decode 0x870000 = .error .event := by decide

/-- HostAccessIsItsOperation: an access of 16 bits at an even address, one at an odd address, one of 8
bits. -/
theorem witness_HostAccessIsItsOperation :
    let s := opened.deliver (.access { kind := .rd, addr := 0xFE, width := 16, data := 0 })
    (s.refused = none ∧
      s.pending = [{ request := .access { kind := .rd, addr := 0xFE, width := 16, data := 0 }, env := s.env }]) ∧
    (0xFE : BitVec 8).toNat % 2 = 0 ∧ (0xFF : BitVec 8).toNat % 2 = 1 ∧
    requestInstr testCfg (.access { kind := .rd, addr := 0xFF, width := 16, data := 0 }) =
      .error .badWidthOrAlignment ∧
    requestInstr testCfg (.access { kind := .rd, addr := 0xFE, width := 17, data := 0 }) =
      .error .badWidthOrAlignment := by decide

/-- EveryRegisterHasOneAddress: a board exists. -/
theorem witness_EveryRegisterHasOneAddress :
    testCfg.addrSel 0 = .fwStatus ∧ testCfg.addrSel 30 = .out3 ∧ testCfg.addrSel 31 = .unmapped ∧
    testCfg.addrSel 21 = .idBank ∧ testCfg.addrSel 100 = .idBank := by decide

/-- RefusedRunTakesNoStep. -/
theorem witness_RefusedRunTakesNoStep :
    (opened.refuse .identityBank).refused = some .identityBank := by decide

/-- ClosedGateReadsSentinel, for a write, a read and an inspection read. -/
theorem witness_ClosedGateReadsSentinel :
    State.reset.refused = none ∧ State.reset.fw.initialized = false ∧ functional .ramWaddrHi = true ∧
    functional .out3 = true ∧ functional .fwData = false ∧ functional .unmapped = false := by decide

/-- UndocumentedAccessIsRefused, for each kind. -/
theorem witness_UndocumentedAccessIsRefused :
    opened.refused = none ∧ opened.fw.initialized = true ∧ undocumented .wr .ramCtrl = true ∧
    undocumented .rd .out3 = true ∧ undocumented .ird .netId = true := by decide

/-- InspectionReadsChangeNothing: an inspection read that is answered. -/
theorem witness_InspectionReadsChangeNothing :
    ∃ t, exec (accessInstr .ird .netData 0) opened = .next t ∧ t.refused = none ∧ Selector.netData ≠ .ident :=
  ⟨_, rfl, rfl, by decide⟩

/-- FirmwareBitWrites: ignored for either reason; accepted, at the last bit, at a byte's end and within a
byte. -/
theorem witness_FirmwareBitWrites :
    opened.fw.initialized = true ∧ State.reset.fw.status.getLsbD 12 = false ∧
    (almostLoaded.refused = none ∧ almostLoaded.fw.initialized = false ∧
      almostLoaded.fw.status.getLsbD 12 = true ∧ almostLoaded.fw.bitsReceived.toNat < fwBits ∧
      almostLoaded.fw.image.wf ∧ almostLoaded.fw.bitsReceived.toNat + 1 = fwBits) ∧
    (7 + 1) % 8 = 0 ∧ (0 + 1) % 8 ≠ 0 := by decide

/-- FirmwareLoadOpensTheGate: an image, and a place before its last bit. -/
theorem witness_FirmwareLoadOpensTheGate :
    (List.replicate fwBytes (0 : Byte)).length = fwBytes ∧ 0 < fwBits ∧ fwBits - 1 < fwBits :=
  ⟨List.length_replicate, by decide, by decide⟩

/-- GateChangesOnlyByLoadOrReset: the gate opens on the last bit, and closes on a controller reset and on a
status write. -/
theorem witness_GateChangesOnlyByLoadOrReset :
    (∃ t, exec (.wrFwData 0) almostLoaded = .next t ∧ almostLoaded.fw.initialized = false ∧
      t.fw.initialized = true) ∧
    (∃ t, exec .evReset opened = .next t ∧ opened.fw.initialized = true ∧ t.fw.initialized = false) ∧
    ∃ t, exec (.wrFwStatus 0x1000) opened = .next t ∧ t.fw.initialized = false :=
  ⟨⟨_, rfl, rfl, rfl⟩, ⟨_, rfl, rfl, rfl⟩, ⟨_, rfl, rfl⟩⟩

/-- VariantAndImageStableWhileOpen: a step that keeps the gate open. -/
theorem witness_VariantAndImageStableWhileOpen :
    ∃ t, step (opened.withFetchWord 24 0x0C1234) = .next t ∧
      (opened.withFetchWord 24 0x0C1234).fw.initialized = true ∧ t.fw.initialized = true :=
  ⟨_, rfl, rfl, rfl⟩

/-- LoadBookkeepingKept: open and closed, with a step of each. -/
theorem witness_LoadBookkeepingKept :
    (GateCounted opened.fw ∧ ∃ t, step (opened.withFetchWord 24 0x000000) = .next t) ∧
    GateCounted almostLoaded.fw ∧ ∃ t, step (almostLoaded.withFetchWord 24 0x010000) = .next t :=
  ⟨⟨by decide, _, rfl⟩, by decide, _, rfl⟩

/-- DataWriteStoresWord and StoreRoundTrips: a store in canonical form, an address in range on every
board. -/
theorem witness_StoreRoundTrips :
    opened.refused = none ∧ opened.fw.initialized = true ∧ opened.store.words.wf ∧
    (((0xFE000001 : Addr) &&& 0x01FFFFFE) >>> 1).toNat < Config.board.storeWords :=
  ⟨rfl, rfl, by decide, Nat.succ_pos _⟩

/-- DefaultKeyStepRotates, DefaultWordMapBits and AlternateAdvanceBits: both variants. -/
theorem witness_variants :
    opened.cipher.variant = .default ∧ openedAlt.cipher.variant = .alternate := by decide

/-- A stream ready to send on every board, from `0x01FFFFFE` around to 2. -/
def ready : State :=
  withMpeg fun m => { m with ctrl := 0xFFFF, demand := true, currentAddr := 0x01FFFFFE, endAddr := 0x2 }

theorem allSet (i : Fin 16) : (0xFFFF : Word).getLsbD i.val = true := by revert i; decide

/-- StreamSendsItsBytesAndEnds: four bytes to send; and a stream with none. -/
theorem witness_StreamSendsItsBytesAndEnds :
    ready.refused = none ∧ ready.mpeg.demand = true ∧ ready.mpeg.hasEnded = false ∧
    ready.mpeg.ctrl.getLsbD Config.board.streamBit = true ∧
    ready.mpeg.ctrl.getLsbD Config.board.mpegBit = true ∧ ready.mpeg.pendingByteCount = 0 ∧
    Masked ready.mpeg.currentAddr ∧ Masked ready.mpeg.endAddr ∧
    (ready.mpeg.endAddr - ready.mpeg.currentAddr).toNat % 2 ^ 25 = 4 :=
  ⟨rfl, rfl, rfl, allSet _, allSet _, rfl, by decide, by decide, by decide⟩

/-- EndedStreamStaysEnded: an ended stream; and a tick that ends one. -/
theorem witness_EndedStreamStaysEnded :
    (withMpeg fun m => { m with hasEnded := true }).mpeg.hasEnded = true ∧
    ∃ t, exec .evTick (streaming 0xFFFF 0) = .next t ∧ (streaming 0xFFFF 0).mpeg.hasEnded = false ∧
      t.mpeg.hasEnded = true := by
  refine ⟨rfl, _, rfl, rfl, ?_⟩
  have h : (streaming 0xFFFF 0).mpeg.atEnd Config.board = true := by
    simp only [MpegChannel.atEnd, streamEn, Bool.and_eq_true]
    exact ⟨⟨⟨rfl, allSet _⟩, rfl⟩, rfl⟩
  simp only [State.tick, h]
  rfl

/-- A frame under way that the framer leaves. -/
theorem bufferOk_partial : BufferOk [0xC0, 0x01] := .inr ⟨[0x01], rfl, by decide⟩

/-- NetworkWriteFrames: an empty buffer, one delimiter, a delimiter and a byte. -/
theorem witness_NetworkWriteFrames :
    opened.refused = none ∧ opened.fw.initialized = true ∧ BufferOk opened.net.outputFrame ∧
    BufferOk [delim] ∧ BufferOk [0xC0, 0x01] :=
  ⟨rfl, rfl, .inl rfl, .inr ⟨[], rfl, by decide⟩, bufferOk_partial⟩

/-- NetsendQueuesTheFrame and DegenerateFrameIsNeverQueued. -/
theorem witness_NetsendQueuesTheFrame :
    opened.refused = none ∧ opened.fw.initialized = true ∧ opened.net.outputFrame = [] ∧
    [(0x01 : Byte), 0x02] ≠ [] ∧ (0xC0 : Byte) ∉ [(0x01 : Byte), 0x02] := by decide

/-- Links on which the other ports than 0 supply nothing. -/
theorem single_link (b : List Byte) (j : Nat) (h : j ≠ 0) :
    (([⟨true, b⟩] : List Link).getD j ⟨false, []⟩).connected = false := by
  cases j with
  | zero => exact absurd rfl h
  | succ k => rfl

/-- InboundFrameIsDelivered: a whole frame over an empty buffer of port 0, which every board has; the rest
of a frame begun before; a frame of another origin, and of the local id. -/
theorem witness_InboundFrameIsDelivered :
    let s := withEnv { idLine := false, links := [⟨true, [0xC0, 0x07, 0x41, 0xC0]⟩] }
    let u := withNet fun n => { n with inputFrame := [(0, [0xC0, 0x01])], localId := 1 }
    (s.refused = none ∧ s.fw.initialized = true ∧ s.net.inputFrame.wf ∧ 0 < Config.board.numPorts ∧
      (0xC0 : Byte) ∉ (0x07 : Byte) :: [0x41] ∧ [(0xC0 : Byte), 0x07, 0x41, 0xC0] ≠ [] ∧
      s.net.inputFrame.read 0 ++ [0xC0, 0x07, 0x41, 0xC0] = [0xC0] ++ 0x07 :: [0x41] ++ [0xC0] ∧
      s.env.links.getD 0 ⟨false, []⟩ = ⟨true, [0xC0, 0x07, 0x41, 0xC0]⟩ ∧
      (∀ j, j ≠ 0 → (s.env.links.getD j ⟨false, []⟩).connected = false ∨
        (s.env.links.getD j ⟨false, []⟩).bytes = []) ∧
      (0x07 : Byte).setWidth 16 ≠ s.net.localId) ∧
    u.net.inputFrame.wf ∧ u.net.inputFrame.read 0 ++ [0xC0] = [0xC0] ++ 0x01 :: [] ++ [0xC0] ∧
      (0x01 : Byte).setWidth 16 = u.net.localId :=
  ⟨⟨rfl, rfl, by decide, Nat.succ_pos _, by decide, by decide, rfl, rfl,
    fun j h => .inl (single_link _ j h), by decide⟩, by decide, rfl, rfl⟩

/-- PumpFramesEveryPort: two ports, one connected with two frames and a part of a third, one not connected
with a frame under way. -/
theorem witness_PumpFramesEveryPort :
    let links : List Link :=
      [⟨true, [0xC0, 0x05, 0xC0, 0xC0, 0x07, 0xC0, 0xC0, 0x09]⟩, ⟨false, [0x02]⟩]
    let s := withNet (fun n => { n with inputFrame := [(1, [0xC0, 0x01])], localId := 5 })
      (withEnv { idLine := false, links := links })
    s.refused = none ∧ s.fw.initialized = true ∧ s.net.inputFrame.wf ∧
    framesOf (s.net.inputFrame.read 0) [0xC0, 0x05, 0xC0, 0xC0, 0x07, 0xC0, 0xC0, 0x09] =
      ([[0xC0, 0x05, 0xC0], [0xC0, 0x07, 0xC0]], [0xC0, 0x09]) ∧
    after (execEvPump s testCfg) (fun t => (t.net.muxedInput, t.net.inputFrame)) =
      some ([0xC0, 0x07, 0xC0], [(0, [0xC0, 0x09]), (1, [0xC0, 0x01])]) := by decide

/-- A network state with a frame under way on port 0, one in the outbound buffer, and one queued. -/
def busyNet : NetState :=
  { NetState.reset with inputFrame := [(0, [0xC0, 0x01])], outputFrame := [0xC0, 0x01],
                        outputQueue := [[0xC0, 0x01, 0xC0]], outputByteCount := 3 }

theorem busyNet_ports (i : Nat) : BufferOk (busyNet.inputFrame.read i) := by
  by_cases h : 0 = i
  · subst h; exact bufferOk_partial
  · exact .inl (by simp [busyNet, PortTable.read, sparseRead, h])

theorem busyNet_framed : Framed busyNet :=
  ⟨bufferOk_partial, busyNet_ports, fun f hf => ⟨[0x01], by decide, by decide, List.mem_singleton.1 hf⟩⟩

/-- PumpPreventsLoops and FramingKept: a pump in such a state. -/
theorem witness_FramingKept :
    let s := withNet fun _ => busyNet
    (s.net.inputFrame.wf ∧ Framed s.net ∧ ∃ t, step (s.withFetchWord 24 0x160002) = .next t) ∧
    s.net.inputFrame.wf ∧ (∀ i, BufferOk (s.net.inputFrame.read i)) ∧ ∃ t, exec .evPump s = .next t :=
  ⟨⟨by decide, busyNet_framed, _, rfl⟩, by decide, busyNet_ports, _, rfl⟩

/-- ByteConservationKept, with a frame queued. -/
theorem witness_ByteConservationKept :
    Conserved busyNet ∧ ∃ t, step ((withNet fun _ => busyNet).withFetchWord 24 0x860000) = .next t :=
  ⟨by unfold Conserved; decide, _, rfl⟩

/-- EdgesAreTheLineChanges: a write that changes lines; a status write that keeps bit 14; the firmware bit
that opens the gate. -/
theorem witness_EdgesAreTheLineChanges :
    (∃ t, exec (.wrOut1 0xB000) opened = .next t ∧ Instr.wrOut1 0xB000 ≠ .evReset ∧
      ∀ data, Instr.wrOut1 0xB000 ≠ .wrFwStatus data) ∧
    (∃ t, exec (.wrFwStatus 0x4000) opened = .next t ∧ opened.fw.initialized = true ∧
      opened.fw.status.getLsbD 14 = true ∧ (0x4000 : Word).getLsbD 14 = true) ∧
    ∃ t, exec (.wrFwData 0) almostLoaded = .next t ∧ t.fw.initialized ≠ almostLoaded.fw.initialized :=
  ⟨⟨_, rfl, by decide, fun _ h => nomatch h⟩, ⟨_, rfl, rfl, rfl, rfl⟩, _, rfl, by decide⟩

/-- UpperLatchesStayZero, with a latch below 4 set. -/
theorem witness_UpperLatchesStayZero :
    UpperLatchesZero (withLatch 3 0xF).out ∧
    ∃ t, step ((withLatch 3 0xF).withFetchWord 24 0x1B1000) = .next t :=
  ⟨by unfold UpperLatchesZero; decide, _, rfl⟩

/-- ClosedGateStaysInert: a step that leaves the gate closed, and one that closes it. -/
theorem witness_ClosedGateStaysInert :
    ((State.reset.fw.initialized = false → Inert State.reset) ∧
      ∃ t, step (State.reset.withFetchWord 24 0x820001) = .next t ∧ t.fw.initialized = false) ∧
    (opened.fw.initialized = false → Inert opened) ∧
      ∃ t, step (opened.withFetchWord 24 0x000000) = .next t ∧ t.fw.initialized = false :=
  ⟨⟨fun _ => ⟨rfl, rfl, rfl, rfl, rfl, rfl⟩, _, rfl, rfl⟩, (fun h => nomatch h), _, rfl, rfl⟩

/-- AddressesAndTablesKept: addresses at both ends, and a listed word. -/
theorem witness_AddressesAndTablesKept :
    let s := withStore (fun w => { w with words := [(0, 0x11)], writeAddr := 0x01FFFFFE }) ready
    AddressesMasked s ∧ TablesCanonical s ∧ TablesBounded s ∧
    ∃ t, step (s.withFetchWord 24 0x061111) = .next t :=
  ⟨by decide, by decide, ⟨fun p hp => by
    have : p = (0, 0x11) := List.mem_singleton.1 hp
    subst this
    exact Nat.mul_pos (by decide) (Nat.succ_pos _), fun p hp => nomatch hp⟩, _, rfl⟩

end Sys2Proof.Tests
end

section
/-! PROOFS. What an instruction can do to each component of the state, one relation a component, derived
once from `exec_next`. An invariant of a component is then a short case analysis of its relation. -/

namespace Sys2Proof.Machine

/-! ### The frame of the composite operations -/

/-- A tick touches the transfer engine, the cipher and the trace only (44_mpeg_transfer.md R200). -/
theorem tick_frame (c : Config) (s : State) :
    s.tick c =
      { s with mpeg := (s.tick c).mpeg, cipher := (s.tick c).cipher, trace := (s.tick c).trace } := by
  obtain ⟨-, e⟩ | ⟨-, -, e⟩ | ⟨-, -, -, e⟩ | ⟨-, -, -, e⟩ := tick_cases c s
  · rw [e]
  · rw [e]; rfl
  · rw [e]; rfl
  · rw [e]; rfl

@[simp] theorem tick_fw (c : Config) (s : State) : (s.tick c).fw = s.fw := by
  rw [tick_frame]
@[simp] theorem tick_store (c : Config) (s : State) : (s.tick c).store = s.store := by
  rw [tick_frame]
@[simp] theorem tick_net (c : Config) (s : State) : (s.tick c).net = s.net := by
  rw [tick_frame]
@[simp] theorem tick_out (c : Config) (s : State) : (s.tick c).out = s.out := by
  rw [tick_frame]

/-- The outbound half of a pump: nothing is queued, or the oldest frame leaves the queue
(45_network.md R241). -/
theorem pumpOutbound_cases (c : Config) (s : State) :
    (s.net.outputQueue = [] ∧ s.pumpOutbound c = s) ∨
    ∃ frame rest, s.net.outputQueue = frame :: rest ∧
      s.pumpOutbound c =
        { s with net := { s.net with outputQueue := rest,
                                     outputByteCount := s.net.outputByteCount - count16 frame } }.emit
          (frameWrites c s.env frame) := by
  unfold State.pumpOutbound
  split
  · exact .inl ⟨‹_›, rfl⟩
  · exact .inr ⟨_, _, ‹_›, rfl⟩

/-- A pump touches the network component and the trace only (45_network.md R242). -/
theorem pump_frame (c : Config) (s : State) :
    s.pump c = { s with net := (s.pump c).net, trace := (s.pump c).trace } := by
  unfold State.pump
  split
  · obtain ⟨-, e⟩ | ⟨_, _, -, e⟩ :=
      pumpOutbound_cases c { s with net := s.net.pumpInbound c s.env }
    · rw [e]
    · rw [e]; rfl
  · rfl

@[simp] theorem pump_fw (c : Config) (s : State) : (s.pump c).fw = s.fw := by
  rw [pump_frame]
@[simp] theorem pump_store (c : Config) (s : State) : (s.pump c).store = s.store := by
  rw [pump_frame]
@[simp] theorem pump_mpeg (c : Config) (s : State) : (s.pump c).mpeg = s.mpeg := by
  rw [pump_frame]
@[simp] theorem pump_out (c : Config) (s : State) : (s.pump c).out = s.out := by
  rw [pump_frame]

/-- Everything a status write can do: the handshake while closed; while open the gate reset when `LOADED`
is stored and the write clears it, and else the stored status alone (41_gate.md R103, R104). -/
theorem statusWrite_cases (d : Word) (s : State) :
    (s.fw.initialized = false ∧
      s.statusWrite d = { s with fw := (s.fw.handshake1 d).handshake2 d }) ∨
    (s.fw.initialized = true ∧ (s.fw.loaded = true → d &&& 0x4000 ≠ 0) ∧
      s.statusWrite d = { s with fw := { s.fw with status := d } }) ∨
    (s.fw.initialized = true ∧ s.fw.loaded = true ∧ d &&& 0x4000 = 0 ∧
      s.statusWrite d = { s.gateReset with fw := { FirmwareLoad.reset with status := d } }) := by
  unfold State.statusWrite State.statusWriteOpen
  rw [gateOpen_eq]
  cases s.fw.initialized with
  | false => exact .inl ⟨rfl, rfl⟩
  | true =>
    refine .inr ?_
    by_cases hreset : s.fw.loaded = true ∧ d &&& 0x4000 = 0
    · obtain ⟨hloaded, hclear⟩ := hreset
      have hcond : (s.fw.loaded && d &&& 0x4000 == 0) = true := by rw [hloaded, hclear]; rfl
      exact .inr ⟨rfl, hloaded, hclear, by simp only [hcond, if_true]; rfl⟩
    · refine .inl ⟨rfl, fun hloaded hclear => hreset ⟨hloaded, hclear⟩, ?_⟩
      have hcond : (s.fw.loaded && d &&& 0x4000 == 0) = false := by simpa using hreset
      simp only [hcond, if_true, Bool.false_eq_true, if_false]

/-- Everything a firmware data write can do: it is ignored, or its bit is taken, and the bit that makes the
count full completes the load (41_gate.md R105, R106). -/
theorem firmwareBitWrite_cases (c : Config) (d : Word) (s : State) :
    ((s.fw.initialized = true ∨ s.fw.accept = false) ∧ s.firmwareBitWrite c d = s) ∨
    (s.fw.initialized = false ∧ s.fw.accept = true ∧
      (s.fw.takeBit (firmwareBit d)).bitsReceived ≠ BitVec.ofNat 32 fwBits ∧
      s.firmwareBitWrite c d = { s with fw := s.fw.takeBit (firmwareBit d) }) ∨
    (s.fw.initialized = false ∧ s.fw.accept = true ∧
      (s.fw.takeBit (firmwareBit d)).bitsReceived = BitVec.ofNat 32 fwBits ∧
      s.firmwareBitWrite c d = State.loadComplete c { s with fw := s.fw.takeBit (firmwareBit d) }) := by
  unfold State.firmwareBitWrite
  cases s.fw.initialized with
  | true => exact .inl ⟨.inl rfl, rfl⟩
  | false =>
    cases s.fw.accept with
    | false => exact .inl ⟨.inr rfl, rfl⟩
    | true =>
      refine .inr ?_
      by_cases hfull : (s.fw.takeBit (firmwareBit d)).bitsReceived = BitVec.ofNat 32 fwBits
      · exact .inr ⟨rfl, rfl, hfull, if_pos hfull⟩
      · exact .inl ⟨rfl, rfl, hfull, if_neg hfull⟩

/-- A firmware data write touches the load and the cipher only (41_gate.md R105, R106). -/
theorem firmwareBitWrite_frame (c : Config) (d : Word) (s : State) :
    s.firmwareBitWrite c d =
      { s with fw := (s.firmwareBitWrite c d).fw, cipher := (s.firmwareBitWrite c d).cipher } := by
  obtain ⟨-, e⟩ | ⟨-, -, -, e⟩ | ⟨-, -, -, e⟩ := firmwareBitWrite_cases c d s
  · rw [e]
  · rw [e]
  · rw [e]; rfl

@[simp] theorem firmwareBitWrite_store (c : Config) (d : Word) (s : State) :
    (s.firmwareBitWrite c d).store = s.store := by
  rw [firmwareBitWrite_frame]
@[simp] theorem firmwareBitWrite_mpeg (c : Config) (d : Word) (s : State) :
    (s.firmwareBitWrite c d).mpeg = s.mpeg := by
  rw [firmwareBitWrite_frame]
@[simp] theorem firmwareBitWrite_net (c : Config) (d : Word) (s : State) :
    (s.firmwareBitWrite c d).net = s.net := by
  rw [firmwareBitWrite_frame]
@[simp] theorem firmwareBitWrite_out (c : Config) (d : Word) (s : State) :
    (s.firmwareBitWrite c d).out = s.out := by
  rw [firmwareBitWrite_frame]

/-! ### The components -/

/-- Everything an instruction can do to the firmware load. -/
inductive LoadChange (f : FirmwareLoad) : FirmwareLoad → Prop
  | same : LoadChange f f
  | reset : LoadChange f FirmwareLoad.reset
  | handshake (d : Word) : f.initialized = false → LoadChange f ((f.handshake1 d).handshake2 d)
  /-- The status stored while the gate is open, where it does not close the gate (41_gate.md R103). -/
  | status (d : Word) : f.initialized = true → (f.loaded = true → d &&& 0x4000 ≠ 0) →
      LoadChange f { f with status := d }
  | gateReset (d : Word) : f.initialized = true → f.loaded = true → d &&& 0x4000 = 0 →
      LoadChange f { FirmwareLoad.reset with status := d }
  | bit (b : Bool) : f.initialized = false → f.accept = true →
      (f.takeBit b).bitsReceived ≠ BitVec.ofNat 32 fwBits → LoadChange f (f.takeBit b)
  /-- The bit that completes the load (41_gate.md R106). -/
  | complete (b : Bool) : f.initialized = false → f.accept = true →
      (f.takeBit b).bitsReceived = BitVec.ofNat 32 fwBits →
      LoadChange f { f.takeBit b with status := (f.takeBit b).status ||| 0x6000, initialized := true }

/-- Everything an instruction can do to the window store. -/
inductive StoreChange (c : Config) (w : AddressWindow) : AddressWindow → Prop
  | same : StoreChange c w w
  | reset : StoreChange c w AddressWindow.reset
  | writeAddr (a : Addr) : Masked a → StoreChange c w { w with writeAddr := a }
  | readAddr (a : Addr) : Masked a → StoreChange c w ({ w with readAddr := a }.refreshLVR c)
  | dataWrite (d : Word) : StoreChange c w (w.dataWrite c d)
  | dataRead : StoreChange c w (w.afterRead c)

/-- Everything an instruction can do to the network component; only a pump depends on more of the state. -/
inductive NetChange (c : Config) (s : State) : NetState → Prop
  | same : NetChange c s s.net
  | reset : NetChange c s NetState.reset
  | writeByte (b : Byte) : NetChange c s (s.net.writeByte b)
  | pop : NetChange c s s.net.pop
  | networkReset : NetChange c s s.net.networkReset
  | localId (d : Word) : NetChange c s { s.net with localId := d }
  | pump : NetChange c s (s.pump c).net

/-- Everything an instruction can do to the output bank. -/
inductive BankChange (o : OutputBank) : OutputBank → Prop
  | same : BankChange o o
  | reset : BankChange o OutputBank.reset
  | set (n : Fin 4) (v : BitVec 4) : BankChange o (o.set (n.castLE (by decide)) v)

section
variable {i : Instr} {s t : State} (h : exec i s = .next t)
include h

theorem exec_fw : LoadChange s.fw t.fw := by
  cases exec_next h with
  | status d =>
    obtain ⟨hclosed, e⟩ | ⟨hopen, hkeep, e⟩ | ⟨hopen, hloaded, hclear, e⟩ := statusWrite_cases d s <;> rw [e]
    · exact .handshake d hclosed
    · exact .status d hopen hkeep
    · exact .gateReset d hopen hloaded hclear
  | bit d =>
    obtain ⟨-, e⟩ | ⟨hclosed, haccept, hn, e⟩ | ⟨hclosed, haccept, hn, e⟩ :=
      firmwareBitWrite_cases Config.board d s <;> rw [e]
    · exact .same
    · exact .bit _ hclosed haccept hn
    · exact .complete _ hclosed haccept hn
  | reset => exact .reset
  | tick => rw [State.answer_fw, tick_fw]; exact .same
  | pump => rw [State.answer_fw, pump_fw]; exact .same
  | _ => exact .same

theorem exec_store : StoreChange Config.board s.store t.store := by
  cases exec_next h with
  | status d =>
    obtain ⟨-, e⟩ | ⟨-, -, e⟩ | ⟨-, -, -, e⟩ := statusWrite_cases d s <;> rw [e]
    · exact .same
    · exact .same
    · exact .reset
  | reset => exact .reset
  | writeAddr _ a _ ha => exact .writeAddr a ha
  | readAddr _ a _ ha => exact .readAddr a ha
  | dataWrite d _ => exact .dataWrite d
  | dataRead _ _ => exact .dataRead
  | bit d => rw [State.answer_store, firmwareBitWrite_store]; exact .same
  | tick => rw [State.answer_store, tick_store]; exact .same
  | pump => rw [State.answer_store, pump_store]; exact .same
  | _ => exact .same

theorem exec_net : NetChange Config.board s t.net := by
  cases exec_next h with
  | status d =>
    obtain ⟨-, e⟩ | ⟨-, -, e⟩ | ⟨-, -, -, e⟩ := statusWrite_cases d s <;> rw [e]
    · exact .same
    · exact .same
    · exact .reset
  | reset => exact .reset
  | netWrite d _ => exact .writeByte _
  | netRead _ _ => exact .pop
  | netReset _ _ => exact .networkReset
  | netId d _ => exact .localId d
  | pump => exact .pump
  | bit d => rw [State.answer_net, firmwareBitWrite_net]; exact .same
  | tick => rw [State.answer_net, tick_net]; exact .same
  | _ => exact .same

theorem exec_out : BankChange s.out t.out := by
  cases exec_next h with
  | status d =>
    obtain ⟨-, e⟩ | ⟨-, -, e⟩ | ⟨-, -, -, e⟩ := statusWrite_cases d s <;> rw [e]
    · exact .same
    · exact .same
    · exact .reset
  | reset => exact .reset
  | output _ n d _ => exact .set n _
  | bit d => rw [State.answer_out, firmwareBitWrite_out]; exact .same
  | tick => rw [State.answer_out, tick_out]; exact .same
  | pump => rw [State.answer_out, pump_out]; exact .same
  | _ => exact .same

end

end Sys2Proof.Machine
end

section
/-! PROOFS. The load's bookkeeping (10_state.md R15, 41_gate.md R103, R105). -/

namespace Sys2Proof.Machine

/-- A bit taken, field by field: every eighth one stores the pending byte (41_gate.md R105). -/
theorem takeBit_eq (b : Bool) (f : FirmwareLoad) :
    f.takeBit b =
      { f with
        bitsReceived := f.bitsReceived + 1
        image := if (f.bitsReceived + 1) % 8 = 0 then
            f.image.write ((f.bitsReceived + 1) / 8 - 1).toNat (f.withBit b)
          else f.image
        pendingByte := if (f.bitsReceived + 1) % 8 = 0 then 0 else f.withBit b } := by
  unfold FirmwareLoad.takeBit
  dsimp only
  split <;> rfl

@[simp] theorem takeBit_initialized (b : Bool) (f : FirmwareLoad) :
    (f.takeBit b).initialized = f.initialized := by
  rw [takeBit_eq]

@[simp] theorem takeBit_bitsReceived (b : Bool) (f : FirmwareLoad) :
    (f.takeBit b).bitsReceived = f.bitsReceived + 1 := by
  rw [takeBit_eq]

theorem takeBit_image (b : Bool) (f : FirmwareLoad) :
    (f.takeBit b).image =
      if (f.bitsReceived + 1) % 8 = 0 then
        f.image.write ((f.bitsReceived + 1) / 8 - 1).toNat (f.withBit b)
      else f.image := by
  rw [takeBit_eq]

/-- Below the full count the bit count does not wrap. -/
theorem toNat_bitsReceived_succ {f : FirmwareLoad} (h : f.bitsReceived.toNat < fwBits) :
    (f.bitsReceived + 1).toNat = f.bitsReceived.toNat + 1 := by
  unfold fwBits at h
  bv_omega

/-- The byte an eighth bit stores is the last one received. -/
theorem byteIndex_lt {n : BitVec 32} (hpos : 0 < n.toNat) (h8 : n % 8 = 0) :
    (n / 8 - 1).toNat < n.toNat / 8 := by
  have hmod : n.toNat % 8 = 0 := by simpa using congrArg BitVec.toNat h8
  have hdiv : (n / 8).toNat = n.toNat / 8 := by simp
  have := n.isLt
  rw [BitVec.toNat_sub, hdiv]
  simp only [BitVec.ofNat_eq_ofNat, BitVec.toNat_ofNat]
  omega

/-- A bit taken below the full count leaves only received bytes listed. -/
theorem takeBit_image_received {f : FirmwareLoad} (b : Bool) (hlt : f.bitsReceived.toNat < fwBits)
    (himage : ∀ p ∈ f.image, p.1 < f.bitsReceived.toNat / 8) :
    ∀ p ∈ (f.takeBit b).image, p.1 < (f.takeBit b).bitsReceived.toNat / 8 := by
  intro p hp
  have hsucc := toNat_bitsReceived_succ hlt
  have hold : p ∈ f.image → p.1 < (f.bitsReceived + 1).toNat / 8 := fun hp => by
    have := himage p hp
    omega
  rw [takeBit_bitsReceived]
  rw [takeBit_image] at hp
  split at hp
  case isTrue h8 =>
    obtain hp | ⟨rfl, -⟩ := mem_sparseWrite _ hp
    · exact hold hp
    · exact byteIndex_lt (by omega) h8
  case isFalse => exact hold hp

/-- The handshake changes the status and the arming bit only (41_gate.md R101, R102). -/
theorem handshake_frame (d : Word) (f : FirmwareLoad) :
    (f.handshake1 d).handshake2 d =
      { f with status := ((f.handshake1 d).handshake2 d).status,
               preInit := ((f.handshake1 d).handshake2 d).preInit } := by
  unfold FirmwareLoad.handshake1 FirmwareLoad.handshake2
  split <;> split <;> (try split) <;> rfl

theorem gateCounted_of_open {f : FirmwareLoad} (h : f.initialized = true) :
    GateCounted f ↔ (f.status &&& 0x4000 ≠ 0 ∧ f.bitsReceived.toNat = fwBits) ∧
      ∀ p ∈ f.image, p.1 < f.bitsReceived.toNat / 8 := by
  rw [GateCounted, if_pos h]

theorem gateCounted_of_closed {f : FirmwareLoad} (h : f.initialized = false) :
    GateCounted f ↔ f.bitsReceived.toNat < fwBits ∧
      ∀ p ∈ f.image, p.1 < f.bitsReceived.toNat / 8 := by
  rw [GateCounted, if_neg (by simp [h])]

/-- A load that starts afresh has nothing counted, whatever status is stored. -/
theorem gateCounted_reset (d : Word) : GateCounted { FirmwareLoad.reset with status := d } :=
  (gateCounted_of_closed rfl).2 ⟨Nat.succ_pos _, fun _ hp => nomatch hp⟩

/-- Load completion stores `LOADED` (41_gate.md R106). -/
theorem loaded_or_complete (w : Word) : (w ||| 0x6000) &&& 0x4000 ≠ 0 := fun h => by
  simpa using congrArg (·.getLsbD 14) h

theorem LoadChange.gateCounted {f g : FirmwareLoad} (h : LoadChange f g) (hf : GateCounted f) :
    GateCounted g := by
  cases h with
  | same => exact hf
  | reset => exact gateCounted_reset 0
  | handshake d hclosed =>
    rw [handshake_frame]
    refine (gateCounted_of_closed ?_).2 ((gateCounted_of_closed hclosed).1 hf)
    exact hclosed
  | status d hopen hkeep =>
    obtain ⟨⟨hloaded, hcount⟩, himage⟩ := (gateCounted_of_open hopen).1 hf
    have hd := hkeep (by simpa [FirmwareLoad.loaded] using hloaded)
    exact (gateCounted_of_open (f := { f with status := d }) hopen).2 ⟨⟨hd, hcount⟩, himage⟩
  | gateReset d => exact gateCounted_reset d
  | bit b hclosed _ hn =>
    obtain ⟨hcount, himage⟩ := (gateCounted_of_closed hclosed).1 hf
    have hsucc := toNat_bitsReceived_succ hcount
    rw [takeBit_bitsReceived] at hn
    refine (gateCounted_of_closed (by simpa using hclosed)).2 ⟨?_, takeBit_image_received b hcount himage⟩
    have hne : (f.bitsReceived + 1).toNat ≠ fwBits := fun e => hn (BitVec.eq_of_toNat_eq e)
    rw [takeBit_bitsReceived]
    omega
  | complete b hclosed _ hn =>
    obtain ⟨hcount, himage⟩ := (gateCounted_of_closed hclosed).1 hf
    exact (gateCounted_of_open rfl).2
      ⟨⟨loaded_or_complete _, congrArg BitVec.toNat hn⟩, takeBit_image_received b hcount himage⟩

/-- Settles O20: the load's bookkeeping is kept by every change of the firmware load. -/
theorem loadBookkeepingKept : Obligations.LoadBookkeepingKept := fun _ _ hs h =>
  step_keeps (P := fun s => GateCounted s.fw) (fun _ _ _ hs => hs) (fun _ _ hs => hs)
    (fun _ _ _ hs he => (exec_fw he).gateCounted hs) hs h

end Sys2Proof.Machine
end

section
/-! PROOFS. The framing invariant (10_state.md R29, 45_network.md R231). -/

namespace Sys2Proof.Machine

/-- Receiving a byte replaces the port's buffer by what the framer leaves (45_network.md R240). -/
@[simp] theorem receive_inputFrame (i : Nat) (n : NetState) (b : Byte) :
    (n.receive i b).inputFrame = n.inputFrame.write i (frameStep (n.inputFrame.read i) b).1 := by
  unfold NetState.receive NetState.acceptFrame
  rcases frameStep (n.inputFrame.read i) b with ⟨buf, _ | frame⟩
  · rfl
  · dsimp only
    split <;> rfl

@[simp] theorem writeByte_inputFrame (b : Byte) (n : NetState) :
    (n.writeByte b).inputFrame = n.inputFrame := by
  unfold NetState.writeByte; dsimp only; split <;> rfl

@[simp] theorem writeByte_outputFrame (b : Byte) (n : NetState) :
    (n.writeByte b).outputFrame = (frameStep n.outputFrame b).1 := by
  unfold NetState.writeByte; dsimp only; split <;> rfl

@[simp] theorem writeByte_outputQueue (b : Byte) (n : NetState) :
    (n.writeByte b).outputQueue = n.outputQueue ++ (frameStep n.outputFrame b).2.toList := by
  unfold NetState.writeByte
  rcases frameStep n.outputFrame b with ⟨buf, _ | frame⟩ <;> simp

section
variable {P : NetState → Prop} {c : Config}

/-- What every received byte keeps, the inbound half of a pump keeps (45_network.md R240). -/
theorem pumpInbound_keeps (hreceive : ∀ i < c.numPorts, ∀ n b, P n → P (n.receive i b)) (e : Env)
    {n : NetState} (hn : P n) : P (n.pumpInbound c e) := by
  refine List.foldlRecOn _ _ hn fun n hn i hi => ?_
  unfold NetState.pumpPort
  split
  · exact List.foldlRecOn _ _ hn fun n hn b _ => hreceive i (List.mem_range.1 hi) n b hn
  · exact hn

/-- What every received byte and every frame sent keep, a pump keeps (45_network.md R240, R241, R242). -/
theorem pump_keeps (hreceive : ∀ i < c.numPorts, ∀ n b, P n → P (n.receive i b))
    (hsend : ∀ (n : NetState) frame rest, n.outputQueue = frame :: rest → P n →
      P { n with outputQueue := rest, outputByteCount := n.outputByteCount - count16 frame })
    {s : State} (hs : P s.net) : P (s.pump c).net := by
  unfold State.pump
  split
  · have hin := pumpInbound_keeps hreceive s.env hs
    obtain ⟨-, e⟩ | ⟨frame, rest, hq, e⟩ :=
      pumpOutbound_cases c { s with net := s.net.pumpInbound c s.env } <;> rw [e]
    · exact hin
    · exact hsend _ frame rest hq hin
  · exact hs

end

/-- The framing invariant together with the port table's canonical form, which reading a written port back
needs. -/
def FramedTable (n : NetState) : Prop := Framed n ∧ n.inputFrame.wf

theorem FramedTable.writeByte {n : NetState} (b : Byte) (h : FramedTable n) :
    FramedTable (n.writeByte b) := by
  obtain ⟨⟨hout, hin, hqueue⟩, hwf⟩ := h
  obtain ⟨hbuf, hframe⟩ := frameStep_ok (b := b) hout
  refine ⟨⟨?_, ?_, ?_⟩, ?_⟩
  · rwa [writeByte_outputFrame]
  · rwa [writeByte_inputFrame]
  · intro f hf
    rw [writeByte_outputQueue, List.mem_append, Option.mem_toList] at hf
    exact hf.elim (hqueue f) (hframe f)
  · rwa [writeByte_inputFrame]

theorem FramedTable.receive {n : NetState} (i : Nat) (b : Byte) (h : FramedTable n) :
    FramedTable (n.receive i b) := by
  obtain ⟨⟨hout, hin, hqueue⟩, hwf⟩ := h
  obtain ⟨-, hframe, hq, -⟩ := receive_outbound i n b
  refine ⟨⟨hframe ▸ hout, fun j => ?_, hq ▸ hqueue⟩, ?_⟩
  · rw [receive_inputFrame]
    by_cases hj : j = i
    · subst hj
      rw [PortTable.read_write_same hwf]
      exact (frameStep_ok (hin j)).1
    · rw [PortTable.read_write_other _ _ hj]
      exact hin j
  · rw [receive_inputFrame]
    exact PortTable.wf_write hwf _ _

theorem FramedTable.pump {c : Config} {s : State} (h : FramedTable s.net) :
    FramedTable (s.pump c).net := by
  refine pump_keeps (fun i _ _ b hn => hn.receive i b) (fun n frame rest hq hn => ?_) h
  obtain ⟨⟨hout, hin, hqueue⟩, hwf⟩ := hn
  exact ⟨⟨hout, hin, fun f hf => hqueue f (hq ▸ List.mem_cons_of_mem _ hf)⟩, hwf⟩

theorem NetChange.framedTable {c : Config} {s : State} {n : NetState} (h : NetChange c s n)
    (hs : FramedTable s.net) : FramedTable n := by
  cases h with
  | same | pop | localId d => exact hs
  | writeByte b => exact hs.writeByte b
  | reset | networkReset =>
    exact ⟨⟨.inl rfl, fun _ => .inl rfl, fun _ hf => nomatch hf⟩, reset_tables_wf.2.2⟩
  | pump => exact hs.pump

/-- Settles O49: the framing invariant is kept by every change of the network component. -/
theorem framingKept : Obligations.FramingKept := fun _ _ hwf hs h =>
  step_keeps (P := fun s => FramedTable s.net) (fun _ _ _ hs => hs) (fun _ _ hs => hs)
    (fun _ _ _ hs he => (exec_net he).framedTable hs) ⟨hs, hwf⟩ h

end Sys2Proof.Machine
end

section
/-! PROOFS. The addresses stay masked, and the sparse tables canonical and within bounds (10_state.md R17,
R22, R28; 20_memory.md R42; log 8, log 9, log 10). -/

namespace Sys2Proof.Machine

/-! ### Addresses -/

/-- A masked address is even (20_memory.md R42). -/
theorem Masked.even {a : Addr} (h : Masked a) : a.toNat % 2 = 0 := by
  have h0 : a.getLsbD 0 = false := by simpa [addrMask] using congrArg (·.getLsbD 0) h
  simpa [BitVec.getLsbD, Nat.testBit_zero] using h0

@[simp] theorem afterRead_words (c : Config) (w : AddressWindow) : (w.afterRead c).words = w.words := by
  unfold AddressWindow.afterRead; split <;> rfl

/-- The cursors of the window store are masked (10_state.md R17). -/
abbrev CursorsMasked (w : AddressWindow) : Prop := Masked w.writeAddr ∧ Masked w.readAddr

theorem StoreChange.cursorsMasked {c : Config} {w v : AddressWindow} (h : StoreChange c w v)
    (hw : CursorsMasked w) : CursorsMasked v := by
  obtain ⟨hwrite, hread⟩ := hw
  cases h with
  | same => exact ⟨hwrite, hread⟩
  | reset => decide
  | writeAddr a ha => exact ⟨ha, hread⟩
  | readAddr a ha => exact ⟨hwrite, ha⟩
  | dataWrite d =>
    unfold AddressWindow.dataWrite
    split
    · exact ⟨masked_nextAddr _, hread⟩
    · exact ⟨hwrite, hread⟩
  | dataRead =>
    unfold AddressWindow.afterRead
    split
    · exact ⟨hwrite, masked_nextAddr _⟩
    · exact ⟨hwrite, hread⟩

/-- The stream's current and end address are masked (10_state.md R22). -/
abbrev StreamMasked (m : MpegChannel) : Prop := Masked m.currentAddr ∧ Masked m.endAddr

theorem streamMasked_reset : StreamMasked MpegChannel.reset := by decide

/-- A frame-sync callback keeps the stream's addresses (44_mpeg_transfer.md R203). -/
theorem frameSync_addresses (c : Config) (b : Bool) (m : MpegChannel) :
    (m.frameSync c b).currentAddr = m.currentAddr ∧ (m.frameSync c b).endAddr = m.endAddr := by
  unfold MpegChannel.frameSync
  split <;> exact ⟨rfl, rfl⟩

/-- A frame-identification callback keeps the stream's addresses (44_mpeg_transfer.md R205). -/
theorem frameIdent_addresses (c : Config) (b : Bool) (m : MpegChannel) :
    (m.frameIdent c b).currentAddr = m.currentAddr ∧ (m.frameIdent c b).endAddr = m.endAddr := by
  unfold MpegChannel.frameIdent
  split <;> exact ⟨rfl, rfl⟩

theorem tick_streamMasked {c : Config} {s : State} (hs : StreamMasked s.mpeg) :
    StreamMasked (s.tick c).mpeg := by
  obtain ⟨hcurrent, hend⟩ := hs
  obtain ⟨-, e⟩ | ⟨-, -, e⟩ | ⟨-, -, -, e⟩ | ⟨-, -, -, e⟩ := tick_cases c s <;> rw [e]
  case inr.inr.inl => exact ⟨masked_nextAddr _, hend⟩
  all_goals exact ⟨hcurrent, hend⟩

theorem exec_keeps_streamMasked {i : Instr} {s t : State} (hs : StreamMasked s.mpeg)
    (h : exec i s = .next t) : StreamMasked t.mpeg := by
  cases exec_next h with
  | status d =>
    obtain ⟨-, e⟩ | ⟨-, -, e⟩ | ⟨-, -, -, e⟩ := statusWrite_cases d s <;> rw [e]
    · exact hs
    · exact hs
    · exact streamMasked_reset
  | reset => exact streamMasked_reset
  | startAddr _ a _ ha => exact ⟨ha, hs.2⟩
  | endAddr _ a _ ha => exact ⟨hs.1, ha⟩
  | frameSync b =>
    obtain ⟨hcurrent, hend⟩ := frameSync_addresses Config.board b s.mpeg
    exact ⟨hcurrent ▸ hs.1, hend ▸ hs.2⟩
  | frameIdent b =>
    obtain ⟨hcurrent, hend⟩ := frameIdent_addresses Config.board b s.mpeg
    exact ⟨hcurrent ▸ hs.1, hend ▸ hs.2⟩
  | tick => exact tick_streamMasked hs
  | bit d => rw [State.answer_mpeg, firmwareBitWrite_mpeg]; exact hs
  | pump => rw [State.answer_mpeg, pump_mpeg]; exact hs
  | _ => exact hs

theorem exec_keeps_addressesMasked {i : Instr} {s t : State} (hs : AddressesMasked s)
    (h : exec i s = .next t) : AddressesMasked t := by
  obtain ⟨hwrite, hread, hstream⟩ := hs
  obtain ⟨hwrite', hread'⟩ := (exec_store h).cursorsMasked ⟨hwrite, hread⟩
  exact ⟨hwrite', hread', exec_keeps_streamMasked hstream h⟩

/-! ### Canonical tables -/

/-- The words a data write leaves: written when the store is enabled, else as before (42_window_store.md
R136). -/
theorem dataWrite_words (c : Config) (d : Word) (w : AddressWindow) :
    (w.dataWrite c d).words = if c.storeEn then memWrite c w.words w.writeAddr d else w.words := by
  unfold AddressWindow.dataWrite
  split <;> rfl

theorem StoreChange.words_wf {c : Config} {w v : AddressWindow} (h : StoreChange c w v)
    (hw : w.words.wf) : v.words.wf := by
  cases h with
  | same | writeAddr | readAddr => exact hw
  | reset => exact reset_tables_wf.1
  | dataRead => rwa [afterRead_words]
  | dataWrite d =>
    rw [dataWrite_words]
    split
    · exact memWrite_wf c hw _ _
    · exact hw

theorem takeBit_image_wf {f : FirmwareLoad} (b : Bool) (hf : f.image.wf) : (f.takeBit b).image.wf := by
  rw [takeBit_image]
  split
  · exact Memory.wf_write hf _ _
  · exact hf

theorem LoadChange.image_wf {f g : FirmwareLoad} (h : LoadChange f g) (hf : f.image.wf) :
    g.image.wf := by
  cases h with
  | same | status => exact hf
  | reset | gateReset => exact reset_tables_wf.2.1
  | handshake d => rw [handshake_frame]; exact hf
  | bit b | complete b => exact takeBit_image_wf b hf

theorem NetChange.inputFrame_wf {c : Config} {s : State} {n : NetState} (h : NetChange c s n)
    (hs : s.net.inputFrame.wf) : n.inputFrame.wf := by
  cases h with
  | same | pop | localId => exact hs
  | reset | networkReset => exact reset_tables_wf.2.2
  | writeByte b => rwa [writeByte_inputFrame]
  | pump =>
    refine pump_keeps (P := fun n => n.inputFrame.wf) (fun i _ n b hn => ?_) (fun _ _ _ _ hn => hn) hs
    rw [receive_inputFrame]
    exact PortTable.wf_write hn _ _

theorem exec_keeps_tablesCanonical {i : Instr} {s t : State} (hs : TablesCanonical s)
    (h : exec i s = .next t) : TablesCanonical t := by
  obtain ⟨hwords, himage, hports⟩ := hs
  exact ⟨(exec_store h).words_wf hwords, (exec_fw h).image_wf himage, (exec_net h).inputFrame_wf hports⟩

/-! ### Bounds -/

/-- Every key of a sparse table is below a bound. -/
abbrev KeysBelow {α : Type} (bound : Nat) (m : List (Nat × α)) : Prop := ∀ p ∈ m, p.1 < bound

theorem keysBelow_sparseWrite {α : Type} [DecidableEq α] {d : α} {bound a : Nat} {m : List (Nat × α)}
    (h : KeysBelow bound m) (ha : a < bound) (v : α) : KeysBelow bound (sparseWrite d m a v) := by
  intro p hp
  obtain hp | ⟨rfl, -⟩ := mem_sparseWrite d hp
  · exact h p hp
  · exact ha

/-- Both bytes of an even address in range are within the store's length (20_memory.md R41). -/
theorem succ_lt_of_inRange {c : Config} {a : Addr} (ha : Masked a) (h : inRange c a = true) :
    a.toNat + 1 < 2 * c.storeWords := by
  have heven := ha.even
  have hword : a.toNat / 2 < c.storeWords := by
    simpa [inRange, BitVec.toNat_ushiftRight, Nat.shiftRight_eq_div_pow] using h
  omega

theorem keysBelow_memWrite {c : Config} {m : Memory} {a : Addr} (ha : Masked a) (v : Word)
    (hm : KeysBelow (2 * c.storeWords) m) : KeysBelow (2 * c.storeWords) (memWrite c m a v) := by
  unfold memWrite
  split
  case isTrue h =>
    have hlt := succ_lt_of_inRange ha h
    exact keysBelow_sparseWrite (keysBelow_sparseWrite hm (Nat.lt_of_succ_lt hlt) _) hlt _
  case isFalse => exact hm

theorem StoreChange.words_below {c : Config} {w v : AddressWindow} (h : StoreChange c w v)
    (hwrite : Masked w.writeAddr) (hw : KeysBelow (2 * c.storeWords) w.words) :
    KeysBelow (2 * c.storeWords) v.words := by
  cases h with
  | same | writeAddr | readAddr => exact hw
  | reset => exact fun _ hp => nomatch hp
  | dataRead => rwa [afterRead_words]
  | dataWrite d =>
    rw [dataWrite_words]
    split
    · exact keysBelow_memWrite hwrite d hw
    · exact hw

theorem NetChange.inputFrame_below {c : Config} {s : State} {n : NetState} (h : NetChange c s n)
    (hs : KeysBelow c.numPorts s.net.inputFrame) : KeysBelow c.numPorts n.inputFrame := by
  cases h with
  | same | pop | localId => exact hs
  | reset | networkReset => exact fun _ hp => nomatch hp
  | writeByte b => rwa [writeByte_inputFrame]
  | pump =>
    refine pump_keeps (P := fun n => KeysBelow c.numPorts n.inputFrame) (fun i hi n b hn => ?_)
      (fun _ _ _ _ hn => hn) hs
    rw [receive_inputFrame]
    exact keysBelow_sparseWrite hn hi _

theorem exec_keeps_tablesBounded {i : Instr} {s t : State} (hwrite : Masked s.store.writeAddr)
    (hs : TablesBounded s) (h : exec i s = .next t) : TablesBounded t := by
  obtain ⟨hwords, hports⟩ := hs
  exact ⟨(exec_store h).words_below hwrite hwords, (exec_net h).inputFrame_below hports⟩

/-- Settles O59: the addresses by themselves; the tables' bounds with them, since a data write goes to a
masked, hence even, address. -/
theorem addressesAndTablesKept : Obligations.AddressesAndTablesKept := by
  intro s t haddr h
  refine ⟨step_keeps (fun _ _ _ hs => hs) (fun _ _ hs => hs)
    (fun _ _ _ hs he => exec_keeps_addressesMasked hs he) haddr h, fun hcanon hbound => ?_⟩
  have hkept : AddressesMasked t ∧ TablesCanonical t ∧ TablesBounded t :=
    step_keeps (P := fun s => AddressesMasked s ∧ TablesCanonical s ∧ TablesBounded s)
      (fun _ _ _ hs => hs) (fun _ _ hs => hs)
      (fun _ _ _ ⟨ha, hc, hb⟩ he => ⟨exec_keeps_addressesMasked ha he, exec_keeps_tablesCanonical hc he,
        exec_keeps_tablesBounded ha.1 hb he⟩)
      ⟨haddr, hcanon, hbound⟩ h
  exact hkept.2

end Sys2Proof.Machine
end

section
/-! PROOFS. Latches 4 to 7 and lines 16 to 31 (10_state.md R30, 46_identity_output.md R279). -/

namespace Sys2Proof.Machine

/-- A latch after another is set (46_identity_output.md R272). -/
theorem OutputBank.get_set_other (o : OutputBank) {k t : Fin 8} (v : BitVec 4) (h : k ≠ t) :
    (o.set k v).get t = o.get t :=
  Vector.getElem_set_ne k.isLt t.isLt fun e => h (Fin.ext e)

theorem BankChange.upperLatchesZero {o o' : OutputBank} (h : BankChange o o')
    (ho : UpperLatchesZero o) : UpperLatchesZero o' := by
  cases h with
  | same => exact ho
  | reset => unfold UpperLatchesZero; decide
  | set n v =>
    intro t ht
    have hne : n.castLE (by decide) ≠ t := fun e => by
      have := congrArg Fin.val e
      have := n.isLt
      simp only [Fin.val_castLE] at *
      omega
    rw [OutputBank.get_set_other o v hne]
    exact ho t ht

/-- Lines 16 to 31 show bits of latches 4 to 7 (46_identity_output.md R279). -/
theorem UpperLatchesZero.line_eq_false {o : OutputBank} (h : UpperLatchesZero o) {l : Fin 32}
    (hl : 16 ≤ l.val) : o.line l = false := by
  have htag : 4 ≤ (Fin.ofNat 8 (l.val / 4)).val := by
    rw [Fin.val_ofNat]
    omega
  rw [OutputBank.line, h _ htag]
  exact BitVec.getLsbD_zero

/-- Settles O54: an output write's tag is below 4, and every other change keeps or zeroes the bank. -/
theorem upperLatchesStayZero : Obligations.UpperLatchesStayZero := fun _ t hs h =>
  have hkept : UpperLatchesZero t.out :=
    step_keeps (P := fun s => UpperLatchesZero s.out) (fun _ _ _ hs => hs) (fun _ _ hs => hs)
      (fun _ _ _ hs he => (exec_out he).upperLatchesZero hs) hs h
  ⟨hkept, fun _ hl => hkept.line_eq_false hl⟩

end Sys2Proof.Machine
end

section
/-! PROOFS. The address decode: one slot for each register (20_memory.md R40). -/

namespace Sys2Proof

theorem Config.slots_nodup : Config.slots.Nodup := by decide

theorem Config.mem_slots {sel : Selector} (h : sel ≠ .unmapped) : sel ∈ Config.slots := by
  cases sel with
  | unmapped => exact absurd rfl h
  | _ => decide

/-- Every register stands at a slot, and a slot's number fits a bus address. -/
theorem Config.exists_slot {sel : Selector} (h : sel ≠ .unmapped) :
    ∃ k : Fin 128, Config.slots[k.val]? = some sel := by
  obtain ⟨n, hn⟩ := List.mem_iff_getElem?.mp (Config.mem_slots h)
  have hlen : n < Config.slots.length := (List.getElem?_eq_some_iff.mp hn).1
  exact ⟨⟨n, hlen.trans (by decide)⟩, hn⟩

/-- The register at an address's slot is what the address decodes to. -/
theorem Config.addrSel_of_slot {c : Config} {a : Fin 128} {sel : Selector}
    (h : Config.slots[(c.addrSlot a).val]? = some sel) : c.addrSel a = sel := by
  rw [Config.addrSel, h]

/-- An address without a slot decodes to `ID_BANK` or `UNMAPPED`, so any other register comes from its
slot. -/
theorem Config.slot_of_addrSel {c : Config} {a : Fin 128} {sel : Selector} (hbank : sel ≠ .idBank)
    (hunmapped : sel ≠ .unmapped) (h : c.addrSel a = sel) :
    Config.slots[(c.addrSlot a).val]? = some sel := by
  unfold Config.addrSel at h
  split at h
  next found hslot => rw [hslot, h]
  next =>
    split at h
    · exact absurd h.symm hbank
    · exact absurd h.symm hunmapped

/-- The slots are a permutation of the addresses, so some address has the register's slot. -/
theorem Config.exists_addrSel_eq (c : Config) {sel : Selector} (h : sel ≠ .unmapped) :
    ∃ a : Fin 128, c.addrSel a = sel := by
  obtain ⟨k, hk⟩ := Config.exists_slot h
  exact ⟨c.addrSlot.symm k, Config.addrSel_of_slot (by rwa [Equiv.apply_symm_apply])⟩

/-- The slots name distinct registers, so two addresses of one register have the same slot. -/
theorem Config.addrSel_inj {c : Config} {a b : Fin 128} (hbank : c.addrSel b ≠ .idBank)
    (hunmapped : c.addrSel b ≠ .unmapped) (h : c.addrSel a = c.addrSel b) : a = b := by
  have ha := Config.slot_of_addrSel hbank hunmapped h
  have hb := Config.slot_of_addrSel hbank hunmapped rfl
  have hlen := (List.getElem?_eq_some_iff.mp ha).1
  have hslot := (List.getElem?_inj hlen Config.slots_nodup).mp (ha.trans hb.symm)
  exact c.addrSlot.injective (Fin.ext hslot)

/-- Settles O6: the permutation of the slots gives every register an address, and only `ID_BANK` is decoded
from addresses without a slot. -/
theorem everyRegisterHasOneAddress : Obligations.EveryRegisterHasOneAddress := by
  refine fun c => ⟨fun sel hbank hunmapped => ?_, c.exists_addrSel_eq (by decide)⟩
  obtain ⟨b, rfl⟩ := c.exists_addrSel_eq hunmapped
  exact ⟨b, rfl, fun _ h => Config.addrSel_inj hbank hunmapped h⟩

end Sys2Proof
end

section
/-! PROOFS. The transaction word (30_encoding.md R60 to R67): the decoder case by case, the words it rejects,
and the word of a decoded operation. -/

namespace Sys2Proof

/-! ### Numbers -/

/-- The reserved selectors (30_encoding.md R65). -/
theorem selectorOf_eq_none_iff : ∀ n : BitVec 6,
    selectorOf n = none ↔ 0x1F ≤ n.toNat ∧ n.toNat ≤ 0x3E := by decide

theorem selectorNumber_of_selectorOf {n : BitVec 6} {sel : Selector} (h : selectorOf n = some sel) :
    selectorNumber sel = n :=
  beq_iff_eq.mp (List.find?_some (p := fun sel => selectorNumber sel == n) h)

/-- The reserved events (30_encoding.md R66). -/
theorem eventInstr_eq_none_iff : ∀ (n : BitVec 6) (b : Bool),
    eventInstr n b = none ↔ 0x07 ≤ n.toNat := by decide

/-! ### Fields -/

/-- A word is of an access kind or an event. -/
theorem exists_kindField (t : Txn) : (∃ k, kindOf t = kindField k) ∨ kindOf t = eventField := by
  have h : ∀ f : BitVec 2,
      f = kindField .wr ∨ f = kindField .rd ∨ f = kindField .ird ∨ f = eventField := by decide
  obtain h | h | h | h := h (kindOf t)
  exacts [.inl ⟨_, h⟩, .inl ⟨_, h⟩, .inl ⟨_, h⟩, .inr h]

theorem kindField_ne_eventField (k : Access) : kindField k ≠ eventField := by cases k <;> decide

theorem kindField_eq_wr {k : Access} : kindField k = kindField .wr ↔ k = .wr := by cases k <;> decide

/-- The kind and the selector are the top byte. -/
theorem kindOf_append_selOf (t : Txn) : kindOf t ++ selOf t = t.extractLsb' 16 8 :=
  BitVec.extractLsb'_append_extractLsb'_eq_extractLsb' rfl

theorem packTxn_fields (t : Txn) : packTxn (kindOf t) (selOf t) (dataOf t) = t := by
  rw [packTxn, kindOf_append_selOf]
  exact BitVec.extractLsb'_append_extractLsb'

theorem topByte_packTxn (k : BitVec 2) (n : BitVec 6) (d : Word) :
    (packTxn k n d).extractLsb' 16 8 = k ++ n := by
  rw [← kindOf_append_selOf, kindOf_packTxn, selOf_packTxn]

theorem getLsbD_dataOf_zero (t : Txn) : (dataOf t).getLsbD 0 = t.getLsbD 0 := by
  rw [dataOf, BitVec.getLsbD_extractLsb']
  rfl

/-- Words of one top byte have one kind and one selector or event id. -/
theorem kindOf_selOf_congr {t u : Txn} (h : u.extractLsb' 16 8 = t.extractLsb' 16 8) :
    kindOf u = kindOf t ∧ selOf u = selOf t := by
  rw [← kindOf_append_selOf, ← kindOf_append_selOf] at h
  have hkind := congrArg (BitVec.extractLsb' 6 2) h
  have hsel := congrArg (BitVec.extractLsb' 0 6) h
  rw [BitVec.extractLsb'_append_eq_left, BitVec.extractLsb'_append_eq_left] at hkind
  rw [BitVec.extractLsb'_append_eq_right, BitVec.extractLsb'_append_eq_right] at hsel
  exact ⟨hkind, hsel⟩

/-! ### The decoder, case by case -/

theorem decode_of_access {t : Txn} {k : Access} (h : kindOf t = kindField k) :
    decode t = decodeAccess k t := by
  rw [decode, h]
  cases k <;> rfl

theorem decode_of_selector {t : Txn} {k : Access} {sel : Selector} (hk : kindOf t = kindField k)
    (hs : selectorOf (selOf t) = some sel) : decode t = .ok (accessInstr k sel (dataOf t)) := by
  rw [decode_of_access hk, decodeAccess, hs]

theorem decode_of_reservedSelector {t : Txn} {k : Access} (hk : kindOf t = kindField k)
    (hs : selectorOf (selOf t) = none) : decode t = .error .selector := by
  rw [decode_of_access hk, decodeAccess, hs]

theorem decode_of_event {t : Txn} {i : Instr} (hk : kindOf t = eventField)
    (he : eventInstr (selOf t) ((dataOf t).getLsbD 0) = some i) : decode t = .ok i := by
  rw [decode, if_pos hk, he]

theorem decode_of_reservedEvent {t : Txn} (hk : kindOf t = eventField)
    (he : eventInstr (selOf t) ((dataOf t).getLsbD 0) = none) : decode t = .error .event := by
  rw [decode, if_pos hk, he]

/-- Everything the decoder can answer, one constructor for each of its cases (30_encoding.md R63 to R66). -/
inductive Decoded (t : Txn) : Except Reserved Instr → Prop
  | access (k : Access) (sel : Selector) : kindOf t = kindField k → selectorOf (selOf t) = some sel →
      Decoded t (.ok (accessInstr k sel (dataOf t)))
  | reservedSelector (k : Access) : kindOf t = kindField k → selectorOf (selOf t) = none →
      Decoded t (.error .selector)
  | event (i : Instr) : kindOf t = eventField → eventInstr (selOf t) ((dataOf t).getLsbD 0) = some i →
      Decoded t (.ok i)
  | reservedEvent : kindOf t = eventField → eventInstr (selOf t) ((dataOf t).getLsbD 0) = none →
      Decoded t (.error .event)

theorem decoded (t : Txn) : Decoded t (decode t) := by
  obtain ⟨k, hk⟩ | hk := exists_kindField t
  · cases hs : selectorOf (selOf t) with
    | some sel => exact decode_of_selector hk hs ▸ .access k sel hk hs
    | none => exact decode_of_reservedSelector hk hs ▸ .reservedSelector k hk hs
  · cases he : eventInstr (selOf t) ((dataOf t).getLsbD 0) with
    | some i => exact decode_of_event hk he ▸ .event i hk he
    | none => exact decode_of_reservedEvent hk he ▸ .reservedEvent hk he

/-- Reserved selectors are exactly what is rejected as such (30_encoding.md R65). -/
theorem decode_eq_reservedSelector_iff (t : Txn) :
    decode t = .error .selector ↔
      kindOf t ≠ eventField ∧ 0x1F ≤ (selOf t).toNat ∧ (selOf t).toNat ≤ 0x3E := by
  rw [← selectorOf_eq_none_iff]
  constructor
  · intro h
    have hd := h ▸ decoded t
    cases hd with
    | reservedSelector k hk hs => exact ⟨hk ▸ kindField_ne_eventField k, hs⟩
  · rintro ⟨hk, hs⟩
    obtain ⟨k, hk'⟩ := (exists_kindField t).resolve_right hk
    exact decode_of_reservedSelector hk' hs

/-- Reserved events are exactly what is rejected as such (30_encoding.md R66). -/
theorem decode_eq_reservedEvent_iff (t : Txn) :
    decode t = .error .event ↔ kindOf t = eventField ∧ 0x07 ≤ (selOf t).toNat := by
  rw [← eventInstr_eq_none_iff (selOf t) ((dataOf t).getLsbD 0)]
  constructor
  · intro h
    have hd := h ▸ decoded t
    cases hd with
    | reservedEvent hk he => exact ⟨hk, he⟩
  · exact fun ⟨hk, he⟩ => decode_of_reservedEvent hk he

/-! ### Decoding a packed word -/

/-- A read has no use for the `data` field (30_encoding.md R67). -/
theorem accessInstr_data (k : Access) (sel : Selector) (d : Word) :
    accessInstr k sel (if k = .wr then d else 0) = accessInstr k sel d := by
  cases k with
  | wr => rfl
  | rd => cases sel <;> rfl
  | ird => cases sel <;> rfl

theorem decode_packAccess (k : Access) (sel : Selector) (d : Word) :
    decode (packAccess k sel d) = .ok (accessInstr k sel d) := by
  have hk : kindOf (packAccess k sel d) = kindField k := kindOf_packTxn _ _ _
  have hs : selOf (packAccess k sel d) = selectorNumber sel := selOf_packTxn _ _ _
  have hdata : dataOf (packAccess k sel d) = d := dataOf_packTxn _ _ _
  rw [decode_of_selector hk (hs ▸ selectorOf_number sel), hdata]

/-- An event's operation depends on bit 0 of the `data` field only (30_encoding.md R67). -/
theorem decode_packTxn_event {n : BitVec 6} {d : Word} {i : Instr}
    (h : eventInstr n (d.getLsbD 0) = some i) : decode (packTxn eventField n d) = .ok i :=
  decode_of_event (kindOf_packTxn _ _ _) (by rwa [selOf_packTxn, dataOf_packTxn])

theorem getLsbD_ofBool_word (b : Bool) : ((BitVec.ofBool b).setWidth 16).getLsbD 0 = b := by
  cases b <;> rfl

theorem decode_packEvent {n : BitVec 6} {b : Bool} {i : Instr} (h : eventInstr n b = some i) :
    decode (packEvent n b) = .ok i :=
  decode_packTxn_event (by rwa [getLsbD_ofBool_word])

/-- Settles O1: the encoder packs an event's id and argument, or an access kind, a selector and the data. -/
theorem decodeInvertsEncode : Obligations.DecodeInvertsEncode := fun i => by
  cases i with
  | evReset | evFrameSync | evDemand | evCrcError | evFrameId | evTick | evPump =>
    exact decode_packEvent rfl
  | _ => exact decode_packAccess _ _ _

/-- Settles O3: each word is its fields packed, so the decoder's rules for packed words give its
operation. -/
theorem sampleWordsDecode : Obligations.SampleWordsDecode :=
  ⟨decode_packAccess .wr .fwStatus 0x8000, decode_packAccess .wr .ramData 0xCAFE,
    decode_packAccess .wr .mpegKey1 0x1234, decode_packAccess .rd .mpegCtrl 0,
    decode_packAccess .wr .netData 0x00C0, decode_packAccess .ird .ident 0,
    decode_packAccess .wr .out3 0x4000, decode_packAccess .rd .unmapped 0,
    decode_packTxn_event (n := 0x02) (d := 0xFFFE) rfl, decode_packEvent (n := 0x06) (b := false) rfl⟩

/-! ### The word of a decoded operation -/

/-- The events that take an argument (30_encoding.md R64, R67). -/
def takesArgument (n : BitVec 6) : Bool := decide (0x01 ≤ n.toNat ∧ n.toNat ≤ 0x04)

theorem takesArgument_eq_false {n : BitVec 6} (h : n.toNat = 0x00 ∨ n.toNat = 0x05 ∨ n.toNat = 0x06) :
    takesArgument n = false :=
  decide_eq_false (by omega)

/-- The `data` field with the ignored bits of R67 as zeros: all of a write's, a callback's bit 0, nothing
else. -/
def operandOf (t : Txn) : Word :=
  if kindOf t = kindField .wr then dataOf t
  else if kindOf t = eventField then
    (BitVec.ofBool (takesArgument (selOf t) && (dataOf t).getLsbD 0)).setWidth 16
  else 0

/-- The word with its ignored bits as zeros (30_encoding.md R67, log 13). -/
def canonicalWord (t : Txn) : Txn := packTxn (kindOf t) (selOf t) (operandOf t)

theorem operandOf_access {t : Txn} {k : Access} (h : kindOf t = kindField k) :
    operandOf t = if k = .wr then dataOf t else 0 := by
  simp only [operandOf, h, kindField_eq_wr, kindField_ne_eventField, if_false]

theorem operandOf_event {t : Txn} (h : kindOf t = eventField) :
    operandOf t = (BitVec.ofBool (takesArgument (selOf t) && (dataOf t).getLsbD 0)).setWidth 16 := by
  rw [operandOf, h, if_neg (kindField_ne_eventField .wr).symm, if_pos rfl]

theorem encode_accessInstr (k : Access) (sel : Selector) (d : Word) :
    encode (accessInstr k sel d) = packAccess k sel (if k = .wr then d else 0) := by
  cases k <;> cases sel <;> rfl

theorem encode_eventInstr {n : BitVec 6} {b : Bool} {i : Instr} (h : eventInstr n b = some i) :
    encode i = packEvent n (takesArgument n && b) := by
  unfold eventInstr at h
  split_ifs at h <;> cases h <;> subst n <;> rfl

/-- Encoding the operation of an accepted word gives the word back, with its ignored bits as zeros. -/
theorem encode_of_decode {t : Txn} {i : Instr} (h : decode t = .ok i) : encode i = canonicalWord t := by
  have hd := h ▸ decoded t
  cases hd with
  | access k sel hk hs =>
    rw [encode_accessInstr, packAccess, selectorNumber_of_selectorOf hs, ← hk, ← operandOf_access hk,
      canonicalWord]
  | event _ hk he => rw [encode_eventInstr he, packEvent, ← hk, ← operandOf_event hk, canonicalWord]

/-- The decoder ignores the ignored bits (30_encoding.md R67). -/
theorem decode_canonicalWord (t : Txn) : decode (canonicalWord t) = decode t := by
  have hk : kindOf (canonicalWord t) = kindOf t := kindOf_packTxn _ _ _
  have hs : selOf (canonicalWord t) = selOf t := selOf_packTxn _ _ _
  cases h : decode t with
  | ok i => rw [← encode_of_decode h, decodeInvertsEncode i]
  | error e =>
    cases e with
    | selector =>
      rw [decode_eq_reservedSelector_iff] at h ⊢
      rwa [hk, hs]
    | event =>
      rw [decode_eq_reservedEvent_iff] at h ⊢
      rwa [hk, hs]

theorem canonicalWord_topByte (t : Txn) : (canonicalWord t).extractLsb' 16 8 = t.extractLsb' 16 8 := by
  rw [canonicalWord, topByte_packTxn, kindOf_append_selOf]

theorem canonicalWord_write {t : Txn} (h : kindOf t = kindField .wr) : canonicalWord t = t := by
  rw [canonicalWord, operandOf_access h, if_pos rfl, packTxn_fields]

theorem canonicalWord_argument {t : Txn} (hk : kindOf t = eventField) (hs : takesArgument (selOf t) = true) :
    (canonicalWord t).getLsbD 0 = t.getLsbD 0 := by
  rw [← getLsbD_dataOf_zero, canonicalWord, dataOf_packTxn, operandOf_event hk, getLsbD_ofBool_word, hs,
    Bool.true_and, getLsbD_dataOf_zero]

theorem canonicalWord_congr {t u : Txn} (h : u.extractLsb' 16 8 = t.extractLsb' 16 8)
    (ho : operandOf u = operandOf t) : canonicalWord u = canonicalWord t := by
  obtain ⟨hkind, hsel⟩ := kindOf_selOf_congr h
  rw [canonicalWord, hkind, hsel, ho, canonicalWord]

/-- Words of one kind and selector that agree in every bit that counts have one operand: a read has none,
and bit 0 is an event's, if any is (30_encoding.md R67). -/
theorem operandOf_congr {t u : Txn} (htop : u.extractLsb' 16 8 = t.extractLsb' 16 8)
    (h : (∃ k, kindOf t = kindField k ∧ k ≠ .wr) ∨
      kindOf t = eventField ∧ (u.getLsbD 0 = t.getLsbD 0 ∨ takesArgument (selOf t) = false)) :
    operandOf u = operandOf t := by
  obtain ⟨hkind, hsel⟩ := kindOf_selOf_congr htop
  obtain ⟨k, hk, hread⟩ | ⟨hk, hb⟩ := h
  · rw [operandOf_access hk, operandOf_access (hkind.trans hk), if_neg hread, if_neg hread]
  · rw [operandOf_event hk, operandOf_event (hkind.trans hk), hsel,
      getLsbD_dataOf_zero, getLsbD_dataOf_zero]
    obtain hb | hb := hb
    · rw [hb]
    · rw [hb, Bool.false_and, Bool.false_and]

/-- Settles O2: an accepted word is its operation's encoding but for the ignored bits, and a word and its
form with those bits as zeros decode alike. -/
theorem decoderTotalAndIgnoresIgnoredBits : Obligations.DecoderTotalAndIgnoresIgnoredBits := by
  refine fun t u => ⟨decode_eq_reservedSelector_iff t, decode_eq_reservedEvent_iff t,
    fun i hi => ?_, fun htop hignored => ?_⟩
  · rw [encode_of_decode hi]
    exact ⟨canonicalWord_topByte t, canonicalWord_write,
      fun hk h1 h4 => canonicalWord_argument hk (decide_eq_true ⟨h1, h4⟩)⟩
  · have hoperand : operandOf u = operandOf t := by
      refine operandOf_congr htop ?_
      obtain hk | hk | ⟨hk, hb⟩ := hignored
      · exact .inl ⟨.rd, hk, nofun⟩
      · exact .inl ⟨.ird, hk, nofun⟩
      · exact .inr ⟨hk, hb.imp_right takesArgument_eq_false⟩
    rw [← decode_canonicalWord u, canonicalWord_congr htop hoperand, decode_canonicalWord]

end Sys2Proof
end

section
/-! PROOFS. A step with a host access first in the list (30_encoding.md R61, 20_memory.md R40, R47). -/

namespace Sys2Proof

theorem HostAccess.wellFormed_iff (a : HostAccess) :
    a.wellFormed = true ↔ a.width = 16 ∧ a.addr.toNat % 2 = 0 := by
  have heven : a.addr.getLsbD 0 = false ↔ a.addr.toNat % 2 = 0 := by
    rw [BitVec.getLsbD, Nat.testBit_zero, decide_eq_false_iff_not, Nat.mod_two_not_eq_one]
  rw [HostAccess.wellFormed, HostAccess.widthOk, HostAccess.aligned, Bool.and_eq_true, beq_iff_eq,
    Bool.not_eq_true', heven]

end Sys2Proof

namespace Sys2Proof.Machine

/-- The slot of a bus address is its even half (20_memory.md R40). -/
theorem busSelector_eq (c : Config) (addr : BitVec 8) :
    busSelector c addr = c.addrSel (Fin.ofNat 128 (addr.toNat / 2)) :=
  rfl

/-- A host access that has a transaction is its kind's operation on its register (30_encoding.md R61). -/
theorem requestInstr_access (c : Config) {a : HostAccess} (h : a.wellFormed = true) :
    requestInstr c (.access a) = .ok (accessInstr a.kind (busSelector c a.addr) a.data) := by
  rw [requestInstr, requestWord, accessWord, if_pos h]
  dsimp only
  rw [decode_packAccess, accessInstr_data]

/-- Any other host access is refused (20_memory.md R47). -/
theorem requestInstr_access_refused (c : Config) {a : HostAccess} (h : ¬ a.wellFormed = true) :
    requestInstr c (.access a) = .error .badWidthOrAlignment := by
  rw [requestInstr, requestWord, accessWord, if_neg h]

/-- A step performs the operation of the oldest arrival (40_bus.md R80). -/
theorem step_of_requestInstr {s : State} {r : Request} {e : Env} {rest : List Arrival} {i : Instr}
    (hrun : s.refused = none) (hs : s.pending = { request := r, env := e } :: rest)
    (hi : requestInstr Config.board r = .ok i) : step s = exec i (s.take e rest) := by
  simp only [step, hrun, hs, hi]

/-- A step refuses an oldest arrival that has no operation (40_bus.md R84). -/
theorem step_of_requestInstr_error {s : State} {r : Request} {e : Env} {rest : List Arrival}
    {why : Reason} (hrun : s.refused = none) (hs : s.pending = { request := r, env := e } :: rest)
    (hi : requestInstr Config.board r = .error why) : step s = .next ((s.take e rest).refuse why) := by
  simp only [step, hrun, hs, hi]

/-- Settles O5: a well-formed access is packed into the word that decodes to its operation, and any other
has no word. -/
theorem hostAccessIsItsOperation : Obligations.HostAccessIsItsOperation := by
  intro s a e rest hrun hs
  by_cases h : a.wellFormed = true
  · rw [if_pos (a.wellFormed_iff.mp h), ← busSelector_eq]
    exact step_of_requestInstr hrun hs (requestInstr_access _ h)
  · rw [if_neg (mt a.wellFormed_iff.mpr h)]
    exact step_of_requestInstr_error hrun hs (requestInstr_access_refused _ h)

end Sys2Proof.Machine
end

section
/-! PROOFS. What an access of each register is, one relation for the write and one for the two reads, said
once from the dispatch (40_bus.md R80). What a statement says of every selector is then a short case
analysis of the relation. -/

namespace Sys2Proof.Machine

/-- Everything the write of a register can be (40_bus.md R80 to R83). -/
inductive WriteMeaning (sel : Selector) : (State → Result) → Prop
  | ungated (effect : State → State) : functional sel = false → undocumented .wr sel = false →
      WriteMeaning sel fun s => writeUngated s effect
  | gated (effect : State → State) : undocumented .wr sel = false →
      WriteMeaning sel fun s => writeGated s effect
  | undescribed : WriteMeaning sel (writeUndocumented sel)

/-- Everything the read and the inspection read of a register can be, side by side (40_bus.md R80 to R83,
R85). -/
inductive ReadMeaning (sel : Selector) : (State → Result) → (State → Result) → Prop
  | ungated (value : State → Word) : functional sel = false → undocumented .rd sel = false →
      ReadMeaning sel (fun s => readUngated s value id) (fun s => readUngated s value id)
  /-- The inspection read has the read's value, but for the cached one of IDENT (46_identity_output.md
  R271). -/
  | gated (value inspected : State → Word) (effect : State → State) : undocumented .rd sel = false →
      (sel ≠ .ident → inspected = value) →
      ReadMeaning sel (fun s => readGated s value effect) (fun s => peekGated s inspected)
  | bank : sel = .idBank →
      ReadMeaning sel (fun s => readRefused s .identityBank) (fun s => readRefused s .identityBank)
  | undescribed : ReadMeaning sel (readUndocumented sel .rd) (readUndocumented sel .ird)

theorem writeMeaning (sel : Selector) (data : Word) :
    WriteMeaning sel (exec (accessInstr .wr sel data)) := by
  cases sel with
  | fwStatus | fwData | unmapped => exact .ungated _ rfl rfl
  | ramCtrl | timerHi | timerDiff | idBank | netOutSize | netInSize => exact .undescribed
  | _ => exact .gated _ rfl

theorem readMeaning (sel : Selector) (data : Word) :
    ReadMeaning sel (exec (accessInstr .rd sel data)) (exec (accessInstr .ird sel data)) := by
  cases sel with
  | fwStatus | unmapped => exact .ungated _ rfl rfl
  | ident => exact .gated _ _ _ rfl fun h => absurd rfl h
  | idBank => exact .bank rfl
  | ramData | mpegStatus | mpegCtrl | timerHi | timerLo | timerDiff | netData | netOutSize | netInSize =>
    exact .gated _ _ _ rfl fun _ => rfl
  | _ => exact .undescribed

/-- A read that may be refused, and is not, found the gate closed (40_bus.md R81, R83). -/
theorem readRefused_next_completed {s t : State} {r : Reason} (h : readRefused s r = .next t)
    (ht : t.refused = none) : s.closed ∧ t = s.answer (some sentinel) := by
  obtain ⟨-, rfl⟩ | hclosed := readRefused_next h
  · cases ht
  · exact hclosed

section
variable {sel : Selector} {s : State} {write read inspect : State → Result}

theorem WriteMeaning.of_closed (m : WriteMeaning sel write) (hsel : functional sel = true)
    (hs : s.closed) : write s = .next (s.answer none) := by
  cases m with
  | ungated _ hungated => cases hungated.symm.trans hsel
  | gated effect => exact writeGated_of_closed hs effect
  | undescribed => exact writeRefused_of_closed hs _

theorem ReadMeaning.of_closed (m : ReadMeaning sel read inspect) (hsel : functional sel = true)
    (hs : s.closed) :
    read s = .next (s.answer (some sentinel)) ∧ inspect s = .next (s.answer (some sentinel)) := by
  cases m with
  | ungated _ hungated => cases hungated.symm.trans hsel
  | gated value inspected effect =>
    exact ⟨readGated_of_closed hs value effect, peekGated_of_closed hs inspected⟩
  | bank => exact ⟨readRefused_of_closed hs _, readRefused_of_closed hs _⟩
  | undescribed => exact ⟨readRefused_of_closed hs _, readRefused_of_closed hs _⟩

theorem WriteMeaning.of_undocumented (m : WriteMeaning sel write) (hsel : undocumented .wr sel = true)
    (hs : s.live) : write s = .next (s.refuse (.undocumentedAccess sel .wr)) := by
  cases m with
  | ungated _ _ hdescribed => cases hdescribed.symm.trans hsel
  | gated _ hdescribed => cases hdescribed.symm.trans hsel
  | undescribed => exact writeRefused_of_live hs _

theorem ReadMeaning.of_undocumented (m : ReadMeaning sel read inspect)
    (hsel : undocumented .rd sel = true) (hs : s.live) :
    read s = .next (s.refuse (.undocumentedAccess sel .rd)) ∧
      inspect s = .next (s.refuse (.undocumentedAccess sel .ird)) := by
  cases m with
  | ungated _ _ hdescribed => cases hdescribed.symm.trans hsel
  | gated _ _ _ hdescribed => cases hdescribed.symm.trans hsel
  | bank hbank => subst hbank; cases hsel
  | undescribed => exact ⟨readRefused_of_live hs _, readRefused_of_live hs _⟩

/-- Everything an inspection read that is not refused can do: it answers a value, which but for IDENT is
the one the read answers in the same state (40_bus.md R85). -/
theorem ReadMeaning.inspect_next (m : ReadMeaning sel read inspect) {t : State}
    (h : inspect s = .next t) (ht : t.refused = none) :
    ∃ v, t = s.answer (some v) ∧
      (sel ≠ .ident → ∃ u, read s = .next u ∧ u.returned = some v) := by
  cases m with
  | ungated value =>
    obtain ⟨-, rfl⟩ := (perform_next_iff s t _).1 h
    exact ⟨value s, rfl, fun _ => ⟨_, h, rfl⟩⟩
  | gated value inspected effect _ hsame =>
    obtain ⟨hs, rfl⟩ | ⟨hs, rfl⟩ := peekGated_next h
    · exact ⟨inspected s, rfl, fun hsel =>
        ⟨_, readGated_of_live hs value effect, by rw [hsame hsel, State.answer_returned]⟩⟩
    · exact ⟨sentinel, rfl, fun _ => ⟨_, readGated_of_closed hs value effect, rfl⟩⟩
  | bank =>
    obtain ⟨hs, rfl⟩ := readRefused_next_completed h ht
    exact ⟨sentinel, rfl, fun _ => ⟨_, readRefused_of_closed hs _, rfl⟩⟩
  | undescribed =>
    obtain ⟨hs, rfl⟩ := readRefused_next_completed h ht
    exact ⟨sentinel, rfl, fun _ => ⟨_, readRefused_of_closed hs _, rfl⟩⟩

end

theorem exec_of_undocumented {s : State} (hs : s.live) {kind : Access} {sel : Selector}
    (hsel : undocumented kind sel = true) (data : Word) :
    exec (accessInstr kind sel data) s = .next (s.refuse (.undocumentedAccess sel kind)) := by
  cases kind with
  | wr => exact (writeMeaning sel data).of_undocumented hsel hs
  | rd => exact ((readMeaning sel data).of_undocumented hsel hs).1
  | ird => exact ((readMeaning sel data).of_undocumented hsel hs).2

/-- Every instruction is an effect, performed unless the run is refused (40_bus.md R80, R84). -/
theorem exec_eq_perform (i : Instr) : ∃ effect, ∀ s, exec i s = perform s effect := by
  cases i <;> exact ⟨_, fun _ => rfl⟩

theorem exec_of_refused {s : State} {r : Reason} (h : s.refused = some r) (i : Instr) :
    exec i s = .refused .runRefused := by
  obtain ⟨effect, he⟩ := exec_eq_perform i
  rw [he, perform_of_refused h]

end Sys2Proof.Machine
end

section
/-! PROOFS. The transaction rules of the bus: a step, a refused run, the closed gate, undescribed directions,
the unmapped selector and inspection reads (40_bus.md R80 to R85). -/

namespace Sys2Proof.Machine

theorem step_of_refused {s : State} {r : Reason} (h : s.refused = some r) :
    step s = .refused .runRefused := by
  simp only [step, h]

/-- With nothing delivered the block is idle (log 2). -/
theorem step_of_nothing_pending {s : State} (hrun : s.refused = none) (hs : s.pending = []) :
    step s = .next s := by
  simp only [step, hrun, hs]

theorem requestInstr_word (c : Config) {t : Txn} {i : Instr} (h : decode t = .ok i) :
    requestInstr c (.word t) = .ok i := by
  simp only [requestInstr, requestWord, h]

theorem requestInstr_word_reserved (c : Config) {t : Txn} {e : Reserved} (h : decode t = .error e) :
    requestInstr c (.word t) = .error (reservedReason e) := by
  simp only [requestInstr, requestWord, h]

/-- Settles O12: both reads of a register are taken apart side by side. -/
theorem inspectionReadsChangeNothing : Obligations.InspectionReadsChangeNothing := by
  intro sel s t h ht
  obtain ⟨v, rfl, hread⟩ := (readMeaning sel 0).inspect_next h ht
  exact ⟨rfl, hread⟩

/-- Settles O4: a word's request is the operation it decodes to, or the refusal of its reserved field. -/
theorem stepPerformsDecodedWord : Obligations.StepPerformsDecodedWord := by
  intro s hrun
  refine ⟨step_of_nothing_pending hrun, fun t e rest hs => ⟨fun i h => ?_, fun h => ?_, fun h => ?_⟩⟩
  · exact step_of_requestInstr hrun hs (requestInstr_word _ h)
  · exact step_of_requestInstr_error hrun hs (requestInstr_word_reserved _ h)
  · exact step_of_requestInstr_error hrun hs (requestInstr_word_reserved _ h)

/-- Settles O7. -/
theorem refusedRunTakesNoStep : Obligations.RefusedRunTakesNoStep :=
  fun _ _ h => ⟨step_of_refused h, exec_of_refused h⟩

/-- Settles O8: every functional register's write and reads are gated. -/
theorem closedGateReadsSentinel : Obligations.ClosedGateReadsSentinel := by
  intro s kind sel data hrun hgate hsel
  obtain ⟨hread, hinspect⟩ := (readMeaning sel data).of_closed hsel ⟨hrun, hgate⟩
  cases kind with
  | wr => exact (writeMeaning sel data).of_closed hsel ⟨hrun, hgate⟩
  | rd => exact hread
  | ird => exact hinspect

/-- Settles O9: the access is refused, and the refusal ends the run. -/
theorem undocumentedAccessIsRefused : Obligations.UndocumentedAccessIsRefused :=
  fun _ _ _ data hrun hgate hsel => ⟨exec_of_undocumented ⟨hrun, hgate⟩ hsel data, exec_of_refused rfl⟩

/-- Settles O11: the unmapped accesses stand outside the gate. -/
theorem unmappedReadsAllOnes : Obligations.UnmappedReadsAllOnes :=
  fun _ _ hrun =>
    ⟨readUngated_of_completed hrun (fun _ => 0xFFFF) id, readUngated_of_completed hrun (fun _ => 0xFFFF) id,
      writeUngated_of_completed hrun id⟩

end Sys2Proof.Machine
end

section
/-! PROOFS. The two registers of the gate, each operation written out as the state it leaves
(41_gate.md R100 to R106). -/

namespace Sys2Proof.Machine

/-! ### Masks that test one bit or either of two -/

theorem and_twoPow_eq_zero_iff {n k : Nat} (hk : k < n) (w : BitVec n) :
    w &&& BitVec.twoPow n k = 0 ↔ w.getLsbD k = false := by
  have hne : BitVec.twoPow n k ≠ 0#n := fun h => by
    simpa [BitVec.getLsbD_twoPow, hk] using congrArg (·.getLsbD k) h
  rw [BitVec.and_twoPow]
  cases w.getLsbD k with
  | true => simpa using hne
  | false => simp

theorem and_twoPow_bne_zero {n k : Nat} (hk : k < n) (w : BitVec n) :
    (w &&& BitVec.twoPow n k != 0) = w.getLsbD k := by
  rw [Bool.eq_iff_iff, bne_iff_ne, Ne, and_twoPow_eq_zero_iff hk, Bool.not_eq_false]

theorem and_twoPow_or_bne_zero {n j k : Nat} (hj : j < n) (hk : k < n) (w : BitVec n) :
    (w &&& (BitVec.twoPow n j ||| BitVec.twoPow n k) != 0) = (w.getLsbD j || w.getLsbD k) := by
  have hor : w &&& (BitVec.twoPow n j ||| BitVec.twoPow n k) = 0 ↔
      w &&& BitVec.twoPow n j = 0 ∧ w &&& BitVec.twoPow n k = 0 := by
    rw [BitVec.and_or_distrib_left]
    exact BitVec.or_eq_zero_iff
  rw [Bool.eq_iff_iff, bne_iff_ne, Ne, hor, and_twoPow_eq_zero_iff hj, and_twoPow_eq_zero_iff hk,
    not_and_or, Bool.not_eq_false, Bool.not_eq_false, Bool.or_eq_true]

theorem FirmwareLoad.accept_eq (f : FirmwareLoad) : f.accept = f.status.getLsbD 12 :=
  and_twoPow_bne_zero (k := 12) (by decide) f.status

theorem FirmwareLoad.loaded_eq (f : FirmwareLoad) : f.loaded = f.status.getLsbD 14 :=
  and_twoPow_bne_zero (k := 14) (by decide) f.status

theorem and_loaded_eq_zero_iff (d : Word) : d &&& 0x4000 = 0 ↔ d.getLsbD 14 = false :=
  and_twoPow_eq_zero_iff (k := 14) (by decide) d

/-! ### The status write -/

/-- Whether a status write arms the loader (41_gate.md R101). -/
def FirmwareLoad.arms (d : Word) (f : FirmwareLoad) : Bool :=
  !f.preInit && (d.getLsbD 15 || d.getLsbD 13)

/-- Whether a status write asks for the toggle step (41_gate.md R102). -/
def toggles (d : Word) : Bool := d.getLsbD 14 || d.getLsbD 12

theorem handshake1_eq (d : Word) (f : FirmwareLoad) :
    f.handshake1 d =
      { f with status := if f.arms d then (f.status &&& ~~~0xA000) ||| 0x1000 else f.status,
               preInit := f.preInit || f.arms d } := by
  have hmask : (d &&& 0xA000 != 0) = (d.getLsbD 15 || d.getLsbD 13) :=
    and_twoPow_or_bne_zero (j := 15) (k := 13) (by decide) (by decide) d
  rw [FirmwareLoad.handshake1, hmask, ← FirmwareLoad.arms]
  cases f.arms d <;> simp

theorem handshake2_eq (d : Word) (f : FirmwareLoad) :
    f.handshake2 d =
      { f with status := if toggles d && f.preInit then f.status ^^^ 0x1000 else f.status,
               preInit := f.preInit || toggles d } := by
  have hmask : (d &&& 0x5000 != 0) = toggles d :=
    and_twoPow_or_bne_zero (j := 14) (k := 12) (by decide) (by decide) d
  rw [FirmwareLoad.handshake2, hmask]
  obtain ⟨status, initialized, preInit, bitsReceived, pendingByte, image⟩ := f
  cases toggles d <;> cases preInit <;> rfl

theorem exec_wrFwStatus_of_completed {s : State} (h : s.refused = none) (d : Word) :
    exec (.wrFwStatus d) s = .next ((s.statusWrite d).answer none) :=
  writeUngated_of_completed h _

theorem statusWrite_of_closed {s : State} (h : s.fw.initialized = false) (d : Word) :
    s.statusWrite d = { s with fw := (s.fw.handshake1 d).handshake2 d } := by
  rw [State.statusWrite, gateOpen_eq, h, if_neg Bool.false_ne_true]

/-- A status write while the gate is open: the gate reset first, if `LOADED` is stored and the write clears
it (41_gate.md R103). -/
theorem statusWrite_of_open {s : State} (h : s.fw.initialized = true) (d : Word) :
    s.statusWrite d =
      if s.fw.status.getLsbD 14 = true ∧ d.getLsbD 14 = false then
        { s.gateReset with fw := { FirmwareLoad.reset with status := d } }
      else { s with fw := { s.fw with status := d } } := by
  simp only [← FirmwareLoad.loaded_eq, ← and_loaded_eq_zero_iff]
  obtain ⟨hclosed, -⟩ | ⟨-, hkeep, e⟩ | ⟨-, hloaded, hclear, e⟩ := statusWrite_cases d s
  · cases hclosed.symm.trans h
  · rw [e, if_neg fun hreset => hkeep hreset.1 hreset.2]
  · rw [e, if_pos ⟨hloaded, hclear⟩]

/-! ### A firmware bit -/

theorem withBit_eq (b : Bool) (f : FirmwareLoad) :
    f.withBit b = f.pendingByte ||| ((if b then (1 : Byte) else 0) <<< (7 - f.bitsReceived.toNat % 8)) := by
  cases b <;> rfl

/-- Below the full count the count is a multiple of eight as a number where it is as a word. -/
theorem bitsReceived_succ_mod_eq_zero_iff {f : FirmwareLoad} (h : f.bitsReceived.toNat < fwBits) :
    (f.bitsReceived + 1) % 8 = 0 ↔ (f.bitsReceived.toNat + 1) % 8 = 0 := by
  rw [← toNat_bitsReceived_succ h, BitVec.toNat_eq, BitVec.toNat_umod]
  rfl

theorem bitsReceived_succ_eq_fwBits_iff {f : FirmwareLoad} :
    f.bitsReceived + 1 = BitVec.ofNat 32 fwBits ↔ f.bitsReceived.toNat + 1 = fwBits := by
  unfold fwBits
  bv_omega

/-- The index of the byte an eighth bit stores. -/
theorem toNat_byteIndex {f : FirmwareLoad} (h : f.bitsReceived.toNat < fwBits)
    (h8 : (f.bitsReceived.toNat + 1) % 8 = 0) :
    ((f.bitsReceived + 1) / 8 - 1).toNat = (f.bitsReceived.toNat + 1) / 8 - 1 := by
  have hdiv : ((f.bitsReceived + 1) / 8).toNat = (f.bitsReceived.toNat + 1) / 8 := by
    rw [BitVec.toNat_udiv, toNat_bitsReceived_succ h]
    rfl
  have hle : 1 ≤ (f.bitsReceived + 1) / 8 := by
    rw [BitVec.le_def, hdiv]
    show 1 ≤ _
    omega
  rw [BitVec.toNat_sub_of_le hle, hdiv]
  rfl

theorem takeBit_of_byteEnd {f : FirmwareLoad} (b : Bool) (h : f.bitsReceived.toNat < fwBits)
    (h8 : (f.bitsReceived.toNat + 1) % 8 = 0) :
    f.takeBit b =
      { f with bitsReceived := f.bitsReceived + 1, pendingByte := 0,
               image := f.image.write ((f.bitsReceived.toNat + 1) / 8 - 1) (f.withBit b) } := by
  have hword := (bitsReceived_succ_mod_eq_zero_iff h).2 h8
  rw [takeBit_eq, if_pos hword, if_pos hword, toNat_byteIndex h h8]

theorem takeBit_of_byteMiddle {f : FirmwareLoad} (b : Bool) (h : f.bitsReceived.toNat < fwBits)
    (h8 : (f.bitsReceived.toNat + 1) % 8 ≠ 0) :
    f.takeBit b = { f with bitsReceived := f.bitsReceived + 1, pendingByte := f.withBit b } := by
  have hword := mt (bitsReceived_succ_mod_eq_zero_iff h).1 h8
  rw [takeBit_eq, if_neg hword, if_neg hword]

@[simp] theorem takeBit_status (b : Bool) (f : FirmwareLoad) : (f.takeBit b).status = f.status := by
  rw [takeBit_eq]

@[simp] theorem takeBit_preInit (b : Bool) (f : FirmwareLoad) : (f.takeBit b).preInit = f.preInit := by
  rw [takeBit_eq]

/-- Where an accepted bit goes: into the pending byte, which every eighth bit stores (41_gate.md R105). -/
theorem takeBit_bytes {f : FirmwareLoad} (b : Bool) (h : f.bitsReceived.toNat < fwBits)
    (hwf : f.image.wf) :
    if (f.bitsReceived.toNat + 1) % 8 = 0 then
      (f.takeBit b).pendingByte = 0 ∧
        (f.takeBit b).image.read ((f.bitsReceived.toNat + 1) / 8 - 1) = f.withBit b ∧
        ∀ k, k ≠ (f.bitsReceived.toNat + 1) / 8 - 1 → (f.takeBit b).image.read k = f.image.read k
    else (f.takeBit b).pendingByte = f.withBit b ∧ (f.takeBit b).image = f.image := by
  split
  case isTrue h8 =>
    rw [takeBit_of_byteEnd b h h8]
    exact ⟨rfl, Memory.read_write_same hwf _ _, fun k hk => Memory.read_write_other _ _ hk⟩
  case isFalse h8 =>
    rw [takeBit_of_byteMiddle b h h8]
    exact ⟨rfl, rfl⟩

theorem exec_wrFwData_of_completed {s : State} (h : s.refused = none) (d : Word) :
    exec (.wrFwData d) s = .next ((s.firmwareBitWrite Config.board d).answer none) :=
  writeUngated_of_completed h _

theorem firmwareBitWrite_of_ignored (c : Config) (d : Word) {s : State}
    (h : s.fw.initialized = true ∨ s.fw.accept = false) : s.firmwareBitWrite c d = s := by
  obtain ⟨-, e⟩ | ⟨hclosed, haccept, -⟩ | ⟨hclosed, haccept, -⟩ := firmwareBitWrite_cases c d s
  · exact e
  all_goals simp [hclosed, haccept] at h

/-- An accepted firmware bit completes the load just where it fills the count (41_gate.md R105, R106). -/
theorem firmwareBitWrite_of_accepted (c : Config) (d : Word) {s : State}
    (hclosed : s.fw.initialized = false) (haccept : s.fw.accept = true) :
    s.firmwareBitWrite c d =
      if s.fw.bitsReceived.toNat + 1 = fwBits then
        State.loadComplete c { s with fw := s.fw.takeBit (firmwareBit d) }
      else { s with fw := s.fw.takeBit (firmwareBit d) } := by
  simp only [← bitsReceived_succ_eq_fwBits_iff]
  obtain ⟨hignored, -⟩ | ⟨-, -, hn, e⟩ | ⟨-, -, hn, e⟩ := firmwareBitWrite_cases c d s
  · simp [hclosed, haccept] at hignored
  · rw [e, if_neg (takeBit_bitsReceived _ s.fw ▸ hn)]
  · rw [e, if_pos (takeBit_bitsReceived _ s.fw ▸ hn)]

/-! ### The statements -/

/-- Settles O13: both reads stand outside the gate and return the same value. -/
theorem firmwareStatusReads : Obligations.FirmwareStatusReads :=
  fun _ hrun =>
    ⟨readUngated_of_completed hrun (fun s => s.fw.statusRead) id,
      readUngated_of_completed hrun (fun s => s.fw.statusRead) id⟩

/-- Settles O14: the arming step, then the toggle step on what it left. -/
theorem statusWriteWhileClosed : Obligations.StatusWriteWhileClosed := by
  intro s d hrun hclosed
  rw [exec_wrFwStatus_of_completed hrun, statusWrite_of_closed hclosed, handshake2_eq, handshake1_eq]
  rfl

/-- Settles O15: the gate reset, spelled out, or the status alone. -/
theorem statusWriteWhileOpen : Obligations.StatusWriteWhileOpen := by
  intro s d hrun hopen
  rw [exec_wrFwStatus_of_completed hrun, statusWrite_of_open hopen]
  split <;> rfl

/-- Settles O16: an accepted bit is taken, and the one that fills the count completes the load. -/
theorem firmwareBitWrites : Obligations.FirmwareBitWrites := by
  intro s d hrun
  simp only [← FirmwareLoad.accept_eq]
  refine ⟨fun hignored => ?_, fun hclosed haccept hlt hwf => ?_⟩
  · rw [exec_wrFwData_of_completed hrun, firmwareBitWrite_of_ignored _ _ hignored]
    rfl
  · have hcount : (s.fw.takeBit (firmwareBit d)).bitsReceived.toNat = s.fw.bitsReceived.toNat + 1 := by
      rw [takeBit_bitsReceived, toNat_bitsReceived_succ hlt]
    have hbytes := takeBit_bytes (firmwareBit d) hlt hwf
    rw [withBit_eq] at hbytes
    rw [exec_wrFwData_of_completed hrun, firmwareBitWrite_of_accepted _ _ hclosed haccept]
    refine ⟨_, rfl, ?_⟩
    split
    · exact ⟨hcount, takeBit_preInit _ _, hbytes, congrArg (· ||| 0x6000) (takeBit_status _ _), rfl, rfl⟩
    · exact ⟨hcount, takeBit_preInit _ _, hbytes, takeBit_status _ _,
        (takeBit_initialized _ _).trans hclosed, rfl⟩

end Sys2Proof.Machine
end

section
/-! PROOFS. When the gate opens and closes, and what stays while it is open (41_gate.md R103, R107,
R109). -/

namespace Sys2Proof.Machine

/-- The operations that close an open gate (41_gate.md R103, 70_reset_and_hazards.md R321). -/
def ClosesGate (f : FirmwareLoad) (i : Instr) : Prop :=
  i = .evReset ∨ ∃ d : Word, i = .wrFwStatus d ∧ f.status.getLsbD 14 = true ∧ d.getLsbD 14 = false

/-- Everything an instruction can do to the gate: it leaves it as it is, opens it on the last firmware bit,
or closes it. -/
inductive GateChange (s : State) : Instr → State → Prop
  | kept (i : Instr) (t : State) : t.fw.initialized = s.fw.initialized →
      (s.fw.initialized = true → t.cipher.variant = s.cipher.variant ∧ t.fw.image = s.fw.image) →
      GateChange s i t
  | opens (d : Word) (t : State) : s.fw.initialized = false → s.fw.status.getLsbD 12 = true →
      s.fw.bitsReceived.toNat + 1 = fwBits → GateChange s (.wrFwData d) t
  | closes (i : Instr) (t : State) : ClosesGate s.fw i → t.fw.initialized = false → GateChange s i t

/-- A tick never changes the variant (41_gate.md R109). -/
@[simp] theorem tick_variant (c : Config) (s : State) : (s.tick c).cipher.variant = s.cipher.variant := by
  obtain ⟨-, e⟩ | ⟨-, -, e⟩ | ⟨-, -, -, e⟩ | ⟨-, -, -, e⟩ := tick_cases c s
  · rw [e]
  · rw [e]; rfl
  · rw [e, State.sendByte_cipher, State.produceWord_cipher, keyStep_variant]
  · rw [e, State.sendByte_cipher]

@[simp] theorem pump_cipher (c : Config) (s : State) : (s.pump c).cipher = s.cipher := by
  rw [pump_frame]

theorem statusWrite_gate (s : State) (d : Word) :
    GateChange s (.wrFwStatus d) ((s.statusWrite d).answer none) := by
  obtain ⟨hclosed, e⟩ | ⟨-, -, e⟩ | ⟨-, hloaded, hclear, e⟩ := statusWrite_cases d s <;> rw [e]
  · exact .kept _ _ (by rw [handshake_frame]; rfl) fun hopen => nomatch hclosed.symm.trans hopen
  · exact .kept _ _ rfl fun _ => ⟨rfl, rfl⟩
  · rw [FirmwareLoad.loaded_eq] at hloaded
    exact .closes _ _ (.inr ⟨d, rfl, hloaded, (and_loaded_eq_zero_iff d).1 hclear⟩) rfl

theorem firmwareBitWrite_gate (s : State) (d : Word) :
    GateChange s (.wrFwData d) ((s.firmwareBitWrite Config.board d).answer none) := by
  obtain ⟨-, e⟩ | ⟨hclosed, -, -, e⟩ | ⟨hclosed, haccept, hn, e⟩ :=
    firmwareBitWrite_cases Config.board d s <;> rw [e]
  · exact .kept _ _ rfl fun _ => ⟨rfl, rfl⟩
  · exact .kept _ _ (takeBit_initialized _ _) fun hopen => nomatch hclosed.symm.trans hopen
  · rw [FirmwareLoad.accept_eq] at haccept
    rw [takeBit_bitsReceived] at hn
    exact .opens d _ hclosed haccept (bitsReceived_succ_eq_fwBits_iff.1 hn)

theorem exec_gate {i : Instr} {s t : State} (h : exec i s = .next t) : GateChange s i t := by
  cases exec_next h with
  | status d => exact statusWrite_gate s d
  | bit d => exact firmwareBitWrite_gate s d
  | reset => exact .closes _ _ (.inl rfl) rfl
  | tick => exact .kept _ _ (by simp) fun _ => by simp
  | pump => exact .kept _ _ (by simp) fun _ => by simp
  | _ => exact .kept _ _ rfl fun _ => ⟨rfl, rfl⟩

theorem GateChange.of_opened {i : Instr} {s t : State} (h : GateChange s i t)
    (hs : s.fw.initialized = false) (ht : t.fw.initialized = true) :
    ∃ d, i = .wrFwData d ∧ s.fw.status.getLsbD 12 = true ∧ s.fw.bitsReceived.toNat + 1 = fwBits := by
  cases h with
  | kept _ _ hgate => cases (hgate.symm.trans ht).symm.trans hs
  | opens d _ _ haccept hcount => exact ⟨d, rfl, haccept, hcount⟩
  | closes _ _ _ hclosed => cases hclosed.symm.trans ht

theorem GateChange.of_closed {i : Instr} {s t : State} (h : GateChange s i t)
    (hs : s.fw.initialized = true) (ht : t.fw.initialized = false) : ClosesGate s.fw i := by
  cases h with
  | kept _ _ hgate => cases (hgate.symm.trans ht).symm.trans hs
  | opens _ _ hclosed => cases hclosed.symm.trans hs
  | closes _ _ hcloses => exact hcloses

theorem GateChange.of_open {i : Instr} {s t : State} (h : GateChange s i t)
    (hs : s.fw.initialized = true) (ht : t.fw.initialized = true) :
    t.cipher.variant = s.cipher.variant ∧ t.fw.image = s.fw.image := by
  cases h with
  | kept _ _ _ hsame => exact hsame hs
  | opens _ _ hclosed => cases hclosed.symm.trans hs
  | closes _ _ _ hclosed => cases hclosed.symm.trans ht

/-- Settles O18: the gate moves only as `GateChange` says. -/
theorem gateChangesOnlyByLoadOrReset : Obligations.GateChangesOnlyByLoadOrReset :=
  fun _ _ _ h => ⟨(exec_gate h).of_opened, (exec_gate h).of_closed⟩

/-- Settles O19: a step that performs an instruction keeps them with the gate; idling and refusing touch
neither. -/
theorem variantAndImageStableWhileOpen : Obligations.VariantAndImageStableWhileOpen := by
  intro s t hs h ht
  obtain ⟨-, ⟨-, rfl⟩ | ⟨a, rest, -, ⟨why, -, rfl⟩ | ⟨i, -, he⟩⟩⟩ := step_next h
  · exact ⟨rfl, rfl⟩
  · exact ⟨rfl, rfl⟩
  · exact (exec_gate he).of_open hs ht

end Sys2Proof.Machine
end

section
/-! PROOFS. The address window store: each register with the gate open, and the round trip
(42_window_store.md R130 to R137). -/

namespace Sys2Proof.Machine

/-! ### The raw accesses -/

/-- A raw read with a fallback, the range test as a comparison (20_memory.md R41, R43). -/
theorem memRead_getD (c : Config) (m : Memory) (a : Addr) (v : Word) :
    (memRead c m a).getD v = if (a >>> 1).toNat < c.storeWords then m.readWord a.toNat else v := by
  simp only [memRead, inRange, decide_eq_true_eq]
  split <;> rfl

theorem memWrite_of_inRange {c : Config} {a : Addr} (h : (a >>> 1).toNat < c.storeWords) (m : Memory)
    (v : Word) : memWrite c m a v = m.writeWord a.toNat v :=
  if_pos (decide_eq_true h)

theorem memWrite_of_outOfRange {c : Config} {a : Addr} (h : ¬ (a >>> 1).toNat < c.storeWords) (m : Memory)
    (v : Word) : memWrite c m a v = m :=
  if_neg (by simpa [inRange] using h)

/-! ### The effects on the store -/

section
variable (c : Config) (w : AddressWindow)

/-- The value a data read returns, with the range test as a comparison (42_window_store.md R134, R135). -/
theorem peek_eq :
    w.peek c =
      if c.storeEn then
        if (w.readAddr >>> 1).toNat < c.storeWords then w.words.readWord w.readAddr.toNat
        else w.lastValidRead
      else w.lastValidRead := by
  rw [AddressWindow.peek, memRead_getD]

/-- What a data read leaves, with the range test as a comparison (42_window_store.md R134). -/
theorem afterRead_eq :
    w.afterRead c =
      if c.storeEn then
        { w with
          readAddr := nextAddr w.readAddr
          lastValidRead :=
            if (nextAddr w.readAddr >>> 1).toNat < c.storeWords then
              w.words.readWord (nextAddr w.readAddr).toNat
            else w.peek c }
      else w := by
  rw [← memRead_getD]
  rfl

/-- A data write touches the words and the write cursor only (42_window_store.md R136). -/
theorem dataWrite_frame (d : Word) :
    w.dataWrite c d =
      { w with
        words := (w.dataWrite c d).words
        writeAddr := if c.storeEn then nextAddr w.writeAddr else w.writeAddr } := by
  unfold AddressWindow.dataWrite
  split <;> rfl

end

/-- The word under the write cursor after a data write in range, the store enabled or disabled
(42_window_store.md R136). -/
theorem readWord_dataWrite {c : Config} {w : AddressWindow} (hw : w.words.wf)
    (h : (w.writeAddr >>> 1).toNat < c.storeWords) (d : Word) :
    (w.dataWrite c d).words.readWord w.writeAddr.toNat =
      if c.storeEn then d else w.words.readWord w.writeAddr.toNat := by
  rw [dataWrite_words, memWrite_of_inRange h]
  split
  · exact Memory.readWord_writeWord_same hw _ d
  · rfl

/-- The read cursor set and the latch refreshed, with the range test as a comparison (42_window_store.md R132,
R133; 20_memory.md R45). -/
theorem setReadAddr_eq (c : Config) (a : Addr) (s : State) :
    s.setReadAddr c a = { s with
      store := { s.store with
        readAddr := a
        lastValidRead := if (a >>> 1).toNat < c.storeWords then s.store.words.readWord a.toNat
          else s.store.lastValidRead } } := by
  rw [State.setReadAddr, AddressWindow.refreshLVR, memRead_getD]

section
variable {c : Config} {a : Addr} (h : (a >>> 1).toNat < c.storeWords) (s : State)
include h

/-- Where the new cursor is in range, the refresh does not depend on the latch it replaces. -/
theorem setReadAddr_of_inRange :
    s.setReadAddr c a = { s with
      store := { s.store with readAddr := a, lastValidRead := s.store.words.readWord a.toNat } } := by
  rw [setReadAddr_eq, if_pos h]

/-- Just after a read cursor in range is set, a data read returns the word there, with the store enabled or
disabled: the latch holds the same word (42_window_store.md R132, R134). -/
theorem peek_setReadAddr_of_inRange : (s.setReadAddr c a).store.peek c = s.store.words.readWord a.toNat := by
  rw [setReadAddr_of_inRange h, peek_eq, if_pos h, ite_self]

end

/-! ### The registers with the gate open -/

section
variable {s : State} (hs : s.live) (d : Word)
include hs

theorem exec_wrRamWaddrHi_of_live :
    exec (.wrRamWaddrHi d) s =
      .next ((s.setWriteAddr (withHighHalf d s.store.writeAddr)).answer none) :=
  writeGated_of_live hs _

theorem exec_wrRamWaddrLo_of_live :
    exec (.wrRamWaddrLo d) s =
      .next ((s.setWriteAddr (withLowHalf d s.store.writeAddr)).answer none) :=
  writeGated_of_live hs _

theorem exec_wrRamRaddrHi_of_live :
    exec (.wrRamRaddrHi d) s =
      .next ((s.setReadAddr Config.board (withHighHalf d s.store.readAddr)).answer none) :=
  writeGated_of_live hs _

theorem exec_wrRamRaddrLo_of_live :
    exec (.wrRamRaddrLo d) s =
      .next ((s.setReadAddr Config.board (withLowHalf d s.store.readAddr)).answer none) :=
  writeGated_of_live hs _

theorem exec_wrRamData_of_live :
    exec (.wrRamData d) s = .next ({ s with store := s.store.dataWrite Config.board d }.answer none) :=
  writeGated_of_live hs fun s => { s with store := s.store.dataWrite Config.board d }

theorem exec_rdRamData_of_live :
    exec .rdRamData s =
      .next ({ s with store := s.store.afterRead Config.board }.answer
        (some (s.store.peek Config.board))) :=
  readGated_of_live hs (fun s => s.store.peek Config.board)
    fun s => { s with store := s.store.afterRead Config.board }

theorem exec_irdRamData_of_live :
    exec .irdRamData s = .next (s.answer (some (s.store.peek Config.board))) :=
  peekGated_of_live hs fun s => s.store.peek Config.board

end

/-! ### Sequences of operations -/

theorem execAll_singleton (i : Instr) (s : State) : execAll [i] s = exec i s := by
  rw [execAll]
  cases exec i s <;> rfl

/-- Sequences that complete run one after the other (20_memory.md R50). -/
theorem execAll_append_next {is js : List Instr} {s t u : State} (h : execAll is s = .next t)
    (h' : execAll js t = .next u) : execAll (is ++ js) s = .next u := by
  induction is generalizing s with
  | nil => cases h; exact h'
  | cons i is ih =>
    rw [execAll] at h
    rw [List.cons_append, execAll]
    cases he : exec i s with
    | next r => rw [he] at h; exact ih h
    | fault r => cases r
    | refused r => rw [he] at h; cases h

/-! ### A cursor set by its two halves -/

theorem getLsbD_highHalfMask : ∀ i < 32, (0xFFFF0000 : Addr).getLsbD i = decide (16 ≤ i) := by decide

theorem getLsbD_lowHalfMask : ∀ i < 32, (0x0000FFFF : Addr).getLsbD i = decide (i < 16) := by decide

/-- The two halves written one after the other set the whole address, masked, whatever stood there
(42_window_store.md R130, R131; 30_encoding.md R69). -/
theorem withLowHalf_withHighHalf (a old : Addr) :
    withLowHalf (lowHalf a) (withHighHalf (highHalf a) old) = a &&& addrMask := by
  apply BitVec.eq_of_getLsbD_eq
  intro i hi
  simp only [withLowHalf, withHighHalf, BitVec.getLsbD_and, BitVec.getLsbD_or, getLsbD_highHalfMask i hi,
    getLsbD_lowHalfMask i hi]
  by_cases h : i < 16
  · simp [lowHalf, h, hi, Nat.not_le.2 h]
  · have hge : 16 ≤ i := Nat.not_lt.1 h
    have hword : i - 16 < 16 := by omega
    simp [lowHalf, highHalf, h, hi, hge, hword]

section
variable {s : State} (hs : s.live)
include hs

theorem execAll_wr32RamWaddr (a : Addr) :
    execAll (wr32RamWaddr a) s = .next ((s.setWriteAddr (a &&& addrMask)).answer none) := by
  rw [← withLowHalf_withHighHalf a s.store.writeAddr, wr32RamWaddr, execAll,
    exec_wrRamWaddrHi_of_live hs]
  exact (execAll_singleton _ _).trans (exec_wrRamWaddrLo_of_live (by exact hs) _)

/-- In range, the refresh at the intermediate address leaves no trace in the latch (42_window_store.md R132,
R133). -/
theorem execAll_wr32RamRaddr {a : Addr} (h : ((a &&& addrMask) >>> 1).toNat < Config.board.storeWords) :
    execAll (wr32RamRaddr a) s = .next ((s.setReadAddr Config.board (a &&& addrMask)).answer none) := by
  rw [wr32RamRaddr, execAll, exec_wrRamRaddrHi_of_live hs]
  refine (execAll_singleton _ _).trans ((exec_wrRamRaddrLo_of_live (by exact hs) _).trans ?_)
  simp only [State.answer_store, State.setReadAddr_store, refreshLVR_readAddr, withLowHalf_withHighHalf]
  rw [setReadAddr_of_inRange h, setReadAddr_of_inRange h]
  rfl

end

/-! ### The statements -/

/-- Settles O21: each half is its register's effect, and a read-cursor write also refreshes the latch. -/
theorem cursorHalvesSet : Obligations.CursorHalvesSet := by
  intro s d hrun hopen hi lo moved
  have hmoved (a : Addr) : (s.setReadAddr Config.board a).answer none = moved a := by
    rw [setReadAddr_eq]
    rfl
  have hs : s.live := ⟨hrun, hopen⟩
  refine ⟨exec_wrRamWaddrHi_of_live hs d, exec_wrRamWaddrLo_of_live hs d, ?_, ?_⟩
  · rw [exec_wrRamRaddrHi_of_live hs, hmoved]; rfl
  · rw [exec_wrRamRaddrLo_of_live hs, hmoved]; rfl

/-- Settles O22: the value is the peek for both reads, and the data read's effect is `afterRead_eq`. -/
theorem dataReadReturnsWordOrStaleValue : Obligations.DataReadReturnsWordOrStaleValue := by
  intro s hrun hopen inR v a
  rw [exec_rdRamData_of_live ⟨hrun, hopen⟩, exec_irdRamData_of_live ⟨hrun, hopen⟩, afterRead_eq, peek_eq]
  refine ⟨?_, rfl⟩
  cases Config.board.storeEn <;> rfl

/-- Settles O23: the frame of a data write, then the raw write in range, out of range and disabled. -/
theorem dataWriteStoresWord : Obligations.DataWriteStoresWord := by
  intro s d hrun hopen hwf
  refine ⟨_, exec_wrRamData_of_live ⟨hrun, hopen⟩ d, ?_, ?_⟩
  · rw [dataWrite_frame]
    rfl
  · simp only [State.answer_store, dataWrite_words]
    split
    next h =>
      obtain ⟨hen, hin⟩ := h
      rw [if_pos hen, memWrite_of_inRange hin]
      exact ⟨Memory.readWord_writeWord_same hwf _ d, fun b => Memory.read_writeWord_other _ d⟩
    next h =>
      split
      next hen => exact memWrite_of_outOfRange (fun hin => h ⟨hen, hin⟩) _ d
      next => rfl

/-- Settles O24: the sequence is run through the states it passes; the read peeks just after its cursor was
set in range, so it returns the word the data write left. -/
theorem storeRoundTrips : Obligations.StoreRoundTrips := by
  intro s a v hrun hopen hwf hin
  have hs : s.live := ⟨hrun, hopen⟩
  have hwrite := execAll_append_next (execAll_wr32RamWaddr hs a)
    ((execAll_singleton _ _).trans (exec_wrRamData_of_live (by exact hs) v))
  have hcursor := execAll_append_next hwrite (execAll_wr32RamRaddr (by exact hs) hin)
  refine ⟨_, execAll_append_next hcursor
    ((execAll_singleton _ _).trans (exec_rdRamData_of_live (by exact hs))), ?_⟩
  exact congrArg some ((peek_setReadAddr_of_inRange hin _).trans
    (readWord_dataWrite (w := { s.store with writeAddr := a &&& addrMask }) hwf hin v))

end Sys2Proof.Machine
end

section
/-! PROOFS. The stream cipher: the key registers, the key step, both word maps bit by bit and the key table
(43_cipher.md R150 to R162). -/

namespace Sys2Proof.Machine

/-! ### The key registers -/

section
variable {s : State} (hs : s.live) (d : Word)
include hs

theorem exec_wrMpegKey1_of_live :
    exec (.wrMpegKey1 d) s = .next ({ s with cipher := { s.cipher with key1 := d } }.answer none) :=
  writeGated_of_live hs fun s => { s with cipher := { s.cipher with key1 := d } }

theorem exec_wrMpegKey2_of_live :
    exec (.wrMpegKey2 d) s = .next ({ s with cipher := { s.cipher with key2 := d } }.answer none) :=
  writeGated_of_live hs fun s => { s with cipher := { s.cipher with key2 := d } }

theorem exec_wrMpegKey3_of_live :
    exec (.wrMpegKey3 d) s =
      .next ({ s with cipher := { s.cipher with key3 := lowByte d } }.answer none) :=
  writeGated_of_live hs fun s => { s with cipher := { s.cipher with key3 := lowByte d } }

end

theorem lowByte_eq_setWidth (d : Word) : lowByte d = d.setWidth 8 :=
  (BitVec.setWidth_eq_extractLsb' (by decide)).symm

/-! ### The variants -/

theorem wordMap_of_default {k : CipherState} (h : k.variant = .default) : k.wordMap = k.mapDefault := by
  funext w
  rw [CipherState.wordMap, h]

theorem wordMap_of_alternate {k : CipherState} (h : k.variant = .alternate) :
    k.wordMap = k.mapAlternate := by
  funext w
  rw [CipherState.wordMap, h]

theorem keyStep_of_default {k : CipherState} (h : k.variant = .default) :
    k.keyStep = k.keyStepDefault := by
  rw [CipherState.keyStep, h]

theorem keyStep_of_alternate {k : CipherState} (h : k.variant = .alternate) :
    k.keyStep = k.keyStepAlternate := by
  rw [CipherState.keyStep, h]

/-! ### The Default key step -/

/-- The bits each of the three masks selects. -/
theorem getLsbD_key1Step_masks : ∀ i < 16,
    (0x8000#16).getLsbD i = decide (i = 15) ∧ (0x7FFE#16).getLsbD i = decide (1 ≤ i ∧ i ≤ 14) ∧
    (1#16).getLsbD i = decide (i = 0) := by
  decide

/-- Bit 15 stays and bits 14 to 0 rotate left by one (43_cipher.md R154). -/
theorem getLsbD_key1Step (k1 : Word) {i : Nat} (hi : i < 16) :
    (key1Step k1).getLsbD i =
      if i = 15 then k1.getLsbD 15 else if i = 0 then k1.getLsbD 14 else k1.getLsbD (i - 1) := by
  obtain ⟨htop, hmiddle, hlow⟩ := getLsbD_key1Step_masks i hi
  simp only [key1Step, BitVec.natCast_eq_ofNat, BitVec.ofNat_eq_ofNat, BitVec.getLsbD_or, BitVec.getLsbD_and,
    BitVec.getLsbD_shiftLeft, BitVec.getLsbD_ushiftRight, htop, hmiddle, hlow]
  by_cases h15 : i = 15
  · subst h15; simp
  by_cases h0 : i = 0
  · subst h0; simp
  have hrange : 1 ≤ i ∧ i ≤ 14 := by omega
  have hpos : ¬ i < 1 := by omega
  simp [h15, h0, hi, hrange, hpos]

theorem rotateLeft1_eq (w : Word) : rotateLeft1 w = w.rotateLeft 1 := rfl

/-! ### Selected bits of a word -/

/-- Each source bit is appended below those already placed. -/
theorem getLsbD_bitswapFold (x : Word) (src : List Nat) (acc : Word) {i : Nat} (hi : i < 16) :
    (src.foldl (fun (acc : Word) k => (acc <<< 1) ||| boolAt (x.getLsbD k) 0) acc).getLsbD i =
      if i < src.length then x.getLsbD (src.reverse.getD i 0) else acc.getLsbD (i - src.length) := by
  induction src generalizing acc with
  | nil => rfl
  | cons k src ih =>
    rw [List.foldl_cons, ih, List.reverse_cons, List.length_cons]
    rcases Nat.lt_trichotomy i src.length with h | h | h
    · rw [if_pos h, if_pos (by omega), List.getD_append _ _ _ _ (by simpa using h)]
    · subst h
      rw [if_neg (Nat.lt_irrefl _), if_pos (Nat.lt_succ_self _), BitVec.getLsbD_or, getLsbD_boolAt]
      simp
    · have hpos : i - src.length ≠ 0 := by omega
      have hword : i - src.length < 16 := by omega
      rw [if_neg (by omega), if_neg (by omega), BitVec.getLsbD_or, BitVec.getLsbD_shiftLeft,
        getLsbD_boolAt, Nat.sub_sub]
      simp [hpos, hword]

/-- The list names the sources from the most significant output bit down (00_scope.md R7). -/
theorem getLsbD_bitswap16 (x : Word) {src : List Nat} {i : Nat} (hi : i < 16) (hlen : i < src.length) :
    (bitswap16 x src).getLsbD i = x.getLsbD (src.reverse.getD i 0) := by
  rw [bitswap16, getLsbD_bitswapFold x src 0 hi, if_pos hlen]

/-! ### The Default word map -/

/-- An even bit of the mask XOR is the mask bit the table names for it (43_cipher.md R152). -/
theorem getLsbD_maskXor_of_mem (m : Word) {i q : Nat} (h : (i, q) ∈ maskTable) :
    (maskXor m).getLsbD i = m.getLsbD q := by
  have hbounds : ∀ p ∈ maskTable, p.1 < 16 := by decide
  have hunique : ∀ p ∈ maskTable, ∀ p' ∈ maskTable, p.1 = p'.1 → p = p' := by decide
  rw [getLsbD_maskXor m (hbounds _ h), Bool.eq_iff_iff, List.any_eq_true]
  constructor
  · rintro ⟨p, hp, hbit⟩
    obtain ⟨he, hbit⟩ : i = p.1 ∧ m.getLsbD p.2 = true := by simpa using hbit
    rw [← hunique _ h p hp he] at hbit
    exact hbit
  · exact fun hbit => ⟨_, h, by simpa using hbit⟩

/-- The mask XOR leaves the odd bits alone (43_cipher.md R152). -/
theorem getLsbD_maskXor_odd (m : Word) {j : Nat} (hj : j < 8) :
    (maskXor m).getLsbD (2 * j + 1) = false := by
  have heven : ∀ p ∈ maskTable, p.1 % 2 = 0 := by decide
  rw [getLsbD_maskXor m (by omega), List.any_eq_false]
  intro p hp
  have hne : 2 * j + 1 ≠ p.1 := fun he => by have := heven p hp; omega
  simp [hne]

/-! ### The Alternate key table -/

/-- The permuted `key1` the table starts from (43_cipher.md R156). -/
def keyTableWord (k1 : Word) : Word :=
  bitswap16 k1 [13, 11, 9, 7, 5, 3, 1, 15, 14, 12, 10, 8, 6, 4, 2, 0]

theorem altKeyTable_eq (k1 : Word) : altKeyTable k1 = altKeySteps 8 (keyTableWord k1) := rfl

theorem getLsbD_keyTableWord (k1 : Word) (b : Fin 8) :
    (keyTableWord k1).getLsbD b = k1.getLsbD #v[0, 2, 4, 6, 8, 10, 12, 14][b] ∧
    (keyTableWord k1).getLsbD (8 + b) = k1.getLsbD #v[15, 1, 3, 5, 7, 9, 11, 13][b] := by
  have hlow : ∀ b : Fin 8, [13, 11, 9, 7, 5, 3, 1, 15, 14, 12, 10, 8, 6, 4, 2, 0].reverse.getD b 0 =
      #v[0, 2, 4, 6, 8, 10, 12, 14][b] := by decide
  have hhigh : ∀ b : Fin 8,
      [13, 11, 9, 7, 5, 3, 1, 15, 14, 12, 10, 8, 6, 4, 2, 0].reverse.getD (8 + b) 0 =
        #v[15, 1, 3, 5, 7, 9, 11, 13][b] := by decide
  rw [keyTableWord, getLsbD_bitswap16 k1 (by omega) (by simp; omega),
    getLsbD_bitswap16 k1 (by omega) (by simp; omega), hlow, hhigh]
  exact ⟨rfl, rfl⟩

/-- Where the two masks select, at the places the two shifts read them. -/
theorem getLsbD_rotateBytes_masks : ∀ i < 16,
    (0x8080#16).getLsbD (7 + i) = decide (i % 8 = 0) ∧
    (!decide (i < 1) && (0x7F7F#16).getLsbD (i - 1)) = decide (i % 8 ≠ 0) := by decide

/-- Each byte rotates left by one (43_cipher.md R156). -/
theorem getLsbD_rotateBytes (ks : Word) {i : Nat} (hi : i < 16) :
    (rotateBytes ks).getLsbD i = if i % 8 = 0 then ks.getLsbD (7 + i) else ks.getLsbD (i - 1) := by
  obtain ⟨htop, hrest⟩ := getLsbD_rotateBytes_masks i hi
  simp only [rotateBytes, BitVec.ofNat_eq_ofNat, BitVec.getLsbD_or, BitVec.getLsbD_and,
    BitVec.getLsbD_shiftLeft, BitVec.getLsbD_ushiftRight, hi, decide_true, Bool.true_and]
  rw [Bool.and_left_comm, htop, hrest]
  by_cases h0 : i % 8 = 0 <;> simp [h0]

/-- The rotation of either byte: subtraction in `Fin 8` goes round the byte. -/
theorem getLsbD_rotateBytes_fin (ks : Word) (b : Fin 8) :
    (rotateBytes ks).getLsbD b = ks.getLsbD (b - 1 : Fin 8) ∧
    (rotateBytes ks).getLsbD (8 + b) = ks.getLsbD (8 + (b - 1 : Fin 8)) := by
  rw [getLsbD_rotateBytes ks (by omega), getLsbD_rotateBytes ks (by omega), Nat.add_mod_left,
    Nat.mod_eq_of_lt b.isLt]
  by_cases h0 : b = 0
  · subst h0
    exact ⟨rfl, rfl⟩
  · have hpos : (b : Nat) ≠ 0 := fun h => h0 (Fin.ext h)
    have hsub : ((b - 1 : Fin 8) : Nat) = b - 1 := Fin.val_sub_one_of_ne_zero h0
    rw [if_neg hpos, if_neg hpos, hsub, Nat.add_sub_assoc (Nat.one_le_iff_ne_zero.2 hpos)]
    exact ⟨rfl, rfl⟩

theorem length_altKeySteps (n : Nat) (ks : Word) : (altKeySteps n ks).length = 2 * n := by
  induction n generalizing ks with
  | zero => rfl
  | succ n ih => rw [altKeySteps, List.length_cons, List.length_cons, ih]; omega

/-- The two bytes of step `i`, bit by bit: each half of the word, rotated left `i` times
(43_cipher.md R156). -/
theorem getLsbD_altKeySteps {n i : Nat} (hi : i < n) (ks : Word) (b : Fin 8) :
    ((altKeySteps n ks).getD (2 * i) 0).getLsbD b = ks.getLsbD (b - Fin.ofNat 8 i : Fin 8) ∧
    ((altKeySteps n ks).getD (2 * i + 1) 0).getLsbD b =
      ks.getLsbD (8 + (b - Fin.ofNat 8 i : Fin 8)) := by
  induction i generalizing n ks with
  | zero =>
    obtain ⟨n, rfl⟩ := Nat.exists_eq_add_of_lt hi
    simp [altKeySteps]
  | succ i ih =>
    obtain ⟨n, rfl⟩ := Nat.exists_eq_add_of_lt hi
    have hturn : b - Fin.ofNat 8 (i + 1) = b - Fin.ofNat 8 i - 1 := by
      rw [Fin.ext_iff]; simp [Fin.sub_def]; omega
    obtain ⟨hlow, hhigh⟩ := ih (n := i + 1 + n) (by omega) (rotateBytes ks)
    obtain ⟨hlow', hhigh'⟩ := getLsbD_rotateBytes_fin ks (b - Fin.ofNat 8 i)
    rw [hturn, ← hlow', ← hhigh', ← hlow, ← hhigh]
    exact ⟨rfl, rfl⟩

/-! ### The Alternate word map -/

theorem toNat_and_15 (k : Byte) : (k &&& 15).toNat = k.toNat % 16 :=
  (BitVec.toNat_and _ _).trans (Nat.and_two_pow_sub_one_eq_mod _ 4)

theorem keyIndex_eq (k3 : Byte) : keyIndex k3 = k3.toNat % 16 := toNat_and_15 k3

/-- The scramble byte is the one before the key byte, round the table (43_cipher.md R157). -/
theorem scrambleIndex_eq (k3 : Byte) : scrambleIndex k3 = (k3.toNat + 15) % 16 := by
  rw [scrambleIndex, toNat_and_15, BitVec.toNat_sub]
  simp
  omega

/-- The bits of one pair of the map stand in that pair only (43_cipher.md R155). -/
theorem getLsbD_altPair (w : Word) (kb sb : Byte) {b c : Nat} (hb : b < 8) :
    (altPair w kb sb c).getLsbD (2 * b) =
      (decide (b = c) &&
        ((if sb.getLsbD c then w.getLsbD (2 * c + 1) else w.getLsbD (2 * c)) ^^ kb.getLsbD c)) ∧
    (altPair w kb sb c).getLsbD (2 * b + 1) =
      (decide (b = c) && if sb.getLsbD c then w.getLsbD (2 * c) else w.getLsbD (2 * c + 1)) := by
  have heven : 2 * b < 16 := by omega
  have hodd : 2 * b + 1 < 16 := by omega
  have hne : 2 * b ≠ 2 * c + 1 := by omega
  have hne' : 2 * b + 1 ≠ 2 * c := by omega
  simp only [altPair, BitVec.getLsbD_or, getLsbD_boolAt]
  simp [heven, hodd, hne, hne']

theorem getLsbD_foldl_or (f : Nat → Word) (i : Nat) (l : List Nat) (v : Word) :
    (l.foldl (fun out b => out ||| f b) v).getLsbD i = (v.getLsbD i || l.any fun b => (f b).getLsbD i) := by
  induction l generalizing v with
  | nil => simp
  | cons c l ih => rw [List.foldl_cons, ih, BitVec.getLsbD_or, List.any_cons, Bool.or_assoc]

theorem any_range_decide_eq {n b : Nat} (hb : b < n) (p : Nat → Bool) :
    ((List.range n).any fun c => decide (b = c) && p c) = p b := by
  rw [Bool.eq_iff_iff]
  simp [hb]

/-- The Alternate word map, pair by pair (43_cipher.md R155, R157). -/
theorem getLsbD_mapAlternate (k : CipherState) (w : Word) {b : Nat} (hb : b < 8) :
    let kb := (altKeyTable k.key1).getD (k.key3.toNat % 16) 0
    let sb := (altKeyTable k.key1).getD ((k.key3.toNat + 15) % 16) 0
    (k.mapAlternate w).getLsbD (2 * b) =
      ((if sb.getLsbD b then w.getLsbD (2 * b + 1) else w.getLsbD (2 * b)) ^^ kb.getLsbD b) ∧
    (k.mapAlternate w).getLsbD (2 * b + 1) =
      (if sb.getLsbD b then w.getLsbD (2 * b) else w.getLsbD (2 * b + 1)) := by
  intro kb sb
  simp only [CipherState.mapAlternate, keyIndex_eq, scrambleIndex_eq, getLsbD_foldl_or,
    (getLsbD_altPair w _ _ hb).1, (getLsbD_altPair w _ _ hb).2, any_range_decide_eq hb,
    BitVec.ofNat_eq_ofNat, BitVec.getLsbD_zero, Bool.false_or]
  exact ⟨rfl, rfl⟩

/-! ### Maps of pairs of bits -/

/-- A map that takes each pair of bits to itself, exchanged where `swap` says so, and then inverts the even
bit where `even` says so and the odd bit where `odd` does. -/
def ScramblesPairs (swap even odd : Fin 8 → Bool) (f : Word → Word) : Prop :=
  ∀ w (j : Fin 8),
    (f w).getLsbD (2 * j) =
      ((if swap j then w.getLsbD (2 * j + 1) else w.getLsbD (2 * j)) ^^ even j) ∧
    (f w).getLsbD (2 * j + 1) =
      ((if swap j then w.getLsbD (2 * j) else w.getLsbD (2 * j + 1)) ^^ odd j)

/-- Words with the same pairs of bits are equal. -/
theorem eq_of_pairs_eq {v w : Word}
    (h : ∀ j : Fin 8, v.getLsbD (2 * j) = w.getLsbD (2 * j) ∧
      v.getLsbD (2 * j + 1) = w.getLsbD (2 * j + 1)) : v = w := by
  apply BitVec.eq_of_getLsbD_eq
  intro i hi
  obtain ⟨heven, hodd⟩ := h ⟨i / 2, by omega⟩
  rcases Nat.mod_two_eq_zero_or_one i with hpar | hpar
  · rwa [show 2 * (i / 2) = i by omega] at heven
  · rwa [show 2 * (i / 2) + 1 = i by omega] at hodd

/-- Each pair is exchanged or not and inverted or not, whatever its bits are, so both can be undone. -/
theorem ScramblesPairs.injective {swap even odd : Fin 8 → Bool} {f : Word → Word}
    (hf : ScramblesPairs swap even odd f) : Function.Injective f := by
  intro v w hvw
  refine eq_of_pairs_eq fun j => ?_
  obtain ⟨heven, hodd⟩ := hf v j
  obtain ⟨heven', hodd'⟩ := hf w j
  rw [hvw, heven'] at heven
  rw [hvw, hodd'] at hodd
  have heven := Bool.xor_left_inj.1 heven
  have hodd := Bool.xor_left_inj.1 hodd
  by_cases hs : swap j
  · rw [if_pos hs, if_pos hs] at heven hodd
    exact ⟨hodd.symm, heven.symm⟩
  · rw [if_neg hs, if_neg hs] at heven hodd
    exact ⟨heven.symm, hodd.symm⟩

theorem ScramblesPairs.bijective {swap even odd : Fin 8 → Bool} {f : Word → Word}
    (hf : ScramblesPairs swap even odd f) : Function.Bijective f :=
  Finite.injective_iff_bijective.1 hf.injective

/-! ### The statements -/

/-- Settles O25: each register's effect is its key, and the gate's write adds only the empty answer. -/
theorem keyRegistersLoadKeys : Obligations.KeyRegistersLoadKeys := by
  intro s d hrun hopen
  have hs : s.live := ⟨hrun, hopen⟩
  refine ⟨exec_wrMpegKey1_of_live hs d, exec_wrMpegKey2_of_live hs d, ?_⟩
  rw [← lowByte_eq_setWidth]
  exact exec_wrMpegKey3_of_live hs d

/-- Settles O26: the bits of `key1Step`; the rotate's test reads bits 15 and 0 of the new key. -/
theorem defaultKeyStepRotates : Obligations.DefaultKeyStepRotates := by
  intro k hk k'
  have hk' : k' = k.keyStepDefault := keyStep_of_default hk
  have htop : (key1Step k.key1).getLsbD 15 = k.key1.getLsbD 15 := getLsbD_key1Step _ (by decide)
  have hlow : (key1Step k.key1).getLsbD 0 = k.key1.getLsbD 14 := getLsbD_key1Step _ (by decide)
  rw [hk']
  refine ⟨⟨htop, hlow, fun i hi => ?_⟩, ?_, BitVec.toNat_add _ _, hk⟩
  · refine (getLsbD_key1Step _ (by omega)).trans ?_
    rw [if_neg (by omega), if_neg (by omega), Nat.add_sub_cancel]
  · simp only [CipherState.keyStepDefault, htop, hlow, rotateLeft1_eq, bne_iff_ne, ne_eq, ite_not]

/-- Settles O27: the three transforms bit by bit, at the places their tables list for pair `j`. -/
theorem defaultWordMapBits : Obligations.DefaultWordMapBits := by
  intro k w j hk m T Q K
  have hT : ((j : Nat), T[j]) ∈ pairTable := by revert j; decide
  have hQ : (2 * (j : Nat), Q[j]) ∈ maskTable := by revert j; decide
  obtain ⟨heven, hodd⟩ := getLsbD_pairSwap w m hT
  have hmap : k.wordMap w = pairSwap w m ^^^ maskXor m ^^^ counterMask k.key3 := by
    rw [wordMap_of_default hk]; rfl
  simp only [hmap, BitVec.getLsbD_xor]
  rw [heven, hodd, getLsbD_maskXor_of_mem m hQ, getLsbD_maskXor_odd m j.isLt, Bool.xor_false,
    getLsbD_counterMask _ (by omega), getLsbD_counterMask _ (by omega)]
  exact ⟨rfl, rfl⟩

/-- Settles O28: the table's bytes are the rotated halves of the permuted key, whose bits are `key1`'s. -/
theorem alternateKeyTableRotates : Obligations.AlternateKeyTableRotates := by
  intro k1 i b low high
  obtain ⟨hlow, hhigh⟩ := getLsbD_altKeySteps i.isLt (keyTableWord k1) b
  rw [Fin.ofNat_eq_cast, Fin.cast_val_eq_self] at hlow hhigh
  obtain ⟨hlowBit, hhighBit⟩ := getLsbD_keyTableWord k1 (b - i)
  rw [altKeyTable_eq]
  exact ⟨length_altKeySteps 8 _, hlow.trans hlowBit, hhigh.trans hhighBit⟩

/-- Settles O29: the Alternate map pair by pair; its key step moves only `key3`. -/
theorem alternateAdvanceBits : Obligations.AlternateAdvanceBits := by
  intro k w b hk kb sb
  obtain ⟨heven, hodd⟩ := getLsbD_mapAlternate k w b.isLt
  rw [wordMap_of_alternate hk]
  exact ⟨heven, hodd, keyStep_of_alternate hk⟩

/-- Both variants exchange and invert by the keyed state alone (43_cipher.md R150, R155). -/
theorem wordMap_scramblesPairs (k : CipherState) :
    ∃ swap even odd, ScramblesPairs swap even odd k.wordMap := by
  cases hk : k.variant with
  | default =>
    exact ⟨_, _, _, fun w j =>
      have ⟨heven, hodd⟩ := defaultWordMapBits k w j hk
      ⟨heven.trans (Bool.xor_assoc _ _ _), hodd⟩⟩
  | alternate =>
    exact ⟨_, _, fun _ => false, fun w j =>
      have ⟨heven, hodd, _⟩ := alternateAdvanceBits k w j hk
      ⟨heven, hodd.trans (Bool.xor_false _).symm⟩⟩

/-- Settles O30: each variant's map scrambles pairs of bits, which is injective on a finite type. -/
theorem cipherWordMapIsBijective : Obligations.CipherWordMapIsBijective := by
  intro k
  obtain ⟨_, _, _, hf⟩ := wordMap_scramblesPairs k
  exact hf.bijective

end Sys2Proof.Machine
end

section
/-! PROOFS. The transfer tick: what it does in each state, the bytes of a whole stream, and its end
(44_mpeg_transfer.md R185, R200, R201). -/

namespace Sys2Proof.Machine

/-! ### The tick, case by case -/

theorem MpegChannel.atEnd_iff (c : Config) (m : MpegChannel) :
    m.atEnd c = true ↔
      m.hasEnded = false ∧ streamEn c m.ctrl = true ∧ m.currentAddr = m.endAddr ∧
        m.pendingByteCount = 0 := by
  simp only [MpegChannel.atEnd, Bool.and_eq_true, Bool.not_eq_true', beq_iff_eq, and_assoc]

theorem MpegChannel.sends_iff (c : Config) (m : MpegChannel) :
    m.sends c = true ↔
      m.demand = true ∧ mpegEn c m.ctrl = true ∧ streamEn c m.ctrl = true ∧ m.hasEnded = false := by
  simp only [MpegChannel.sends, Bool.and_eq_true, Bool.not_eq_true', and_assoc]

theorem MpegChannel.not_sends_iff {c : Config} {m : MpegChannel} (hdemand : m.demand = true) :
    ¬ m.sends c = true ↔ mpegEn c m.ctrl = false ∨ streamEn c m.ctrl = false ∨ m.hasEnded = true := by
  simp only [MpegChannel.sends_iff, hdemand, true_and, not_and_or, Bool.not_eq_true, Bool.not_eq_false]

/-- The fetch of a word, with the range test as a comparison (44_mpeg_transfer.md R185). -/
theorem fetchWord_eq (c : Config) (w : AddressWindow) (a : Addr) :
    fetchWord c w a =
      if c.storeEn = true ∧ (a >>> 1).toNat < c.storeWords then w.words.readWord a.toNat else 0 := by
  rw [fetchWord, memRead_getD, ite_and]

/-- The first byte of a fetched word leaves one byte pending (44_mpeg_transfer.md R185, R200). -/
theorem produceWord_sendByte (c : Config) (s : State) :
    let out := s.cipher.advance (fetchWord c s.store s.mpeg.currentAddr)
    (s.produceWord c).sendByte = { s with
      cipher := out.2
      mpeg := { s.mpeg with
        pendingWord := byteSwap out.1 >>> 8
        currentAddr := nextAddr s.mpeg.currentAddr
        pendingByteCount := 1 }
      trace := s.trace ++ [.byteSink (lowByte (byteSwap out.1))] } := by
  rw [show (1 : Fin 3) = 2 - 1 from rfl]
  rfl

section
variable {c : Config} {s : State}

theorem tick_of_not_demand (h : s.mpeg.demand = false) : s.tick c = s := by
  simp only [State.tick, h, Bool.not_false, if_true]

theorem tick_of_atEnd (hdemand : s.mpeg.demand = true) (h : s.mpeg.atEnd c = true) :
    s.tick c =
      s.withMpeg { s.mpeg with hasEnded := true, ctrl := clearBit s.mpeg.ctrl c.streamBit } := by
  simp only [State.tick, hdemand, h, Bool.not_true, Bool.false_eq_true, if_false, if_true]

theorem tick_of_idle (hend : ¬ s.mpeg.atEnd c = true) (h : ¬ s.mpeg.sends c = true) : s.tick c = s := by
  simp only [State.tick, hend, h, Bool.not_false, Bool.false_eq_true, if_false, if_true, ite_self]

/-- A tick that sends takes the byte from the pipeline, filling it first where it is empty. -/
theorem tick_of_sends (hend : ¬ s.mpeg.atEnd c = true) (h : s.mpeg.sends c = true) :
    s.tick c = if s.mpeg.pendingByteCount = 0 then (s.produceWord c).sendByte else s.sendByte := by
  obtain ⟨hdemand, -⟩ := (s.mpeg.sends_iff c).1 h
  simp only [State.tick, hdemand, hend, h, Bool.not_true, Bool.false_eq_true, if_false]

/-- While `hasEnded` holds a tick does nothing (44_mpeg_transfer.md R201). -/
theorem tick_of_hasEnded (h : s.mpeg.hasEnded = true) : s.tick c = s := by
  apply tick_of_idle
  · intro hend
    exact absurd h (Bool.eq_false_iff.1 ((s.mpeg.atEnd_iff c).1 hend).1)
  · intro hsends
    obtain ⟨-, -, -, hnot⟩ := (s.mpeg.sends_iff c).1 hsends
    exact absurd h (Bool.eq_false_iff.1 hnot)

theorem exec_evTick_of_completed (h : s.refused = none) :
    exec .evTick s = .next ((s.tick Config.board).answer none) :=
  writeUngated_of_completed h _

end

/-- Settles O37: each outcome is the tick's case under the same conditions; a word is fetched and the low
pending byte sent as the statement writes them out. -/
theorem tickSendsOneByte : Obligations.TickSendsOneByte := by
  intro s hrun m S Mp word out
  have hout : out = s.cipher.advance (fetchWord Config.board s.store m.currentAddr) := by
    rw [fetchWord_eq]
  rw [exec_evTick_of_completed hrun, hout, ← lowByte_eq_setWidth, ← lowByte_eq_setWidth]
  congr 1
  split
  next h => rw [tick_of_not_demand h]; rfl
  next hdemand =>
    rw [Bool.not_eq_false] at hdemand
    split
    next h => rw [tick_of_atEnd hdemand ((m.atEnd_iff _).2 h)]; rfl
    next hend =>
      have hend' : ¬ m.atEnd Config.board = true := fun h => hend ((m.atEnd_iff _).1 h)
      split
      next h => rw [tick_of_idle hend' ((MpegChannel.not_sends_iff hdemand).2 h)]; rfl
      next h =>
        rw [tick_of_sends hend' (not_not.1 fun hidle => h ((MpegChannel.not_sends_iff hdemand).1 hidle))]
        split
        · rw [produceWord_sendByte]; rfl
        · rfl

/-! ### The end of a stream -/

/-- A tick sets `hasEnded` at the end of the stream only (44_mpeg_transfer.md R200). -/
theorem tick_hasEnded (c : Config) (s : State) :
    (s.tick c).mpeg.hasEnded = s.mpeg.hasEnded ∨ s.mpeg.atEnd c = true := by
  obtain ⟨-, e⟩ | ⟨-, hend, -⟩ | ⟨-, -, -, e⟩ | ⟨-, -, -, e⟩ := tick_cases c s
  · exact .inl (by rw [e])
  · exact .inr hend
  · exact .inl (by rw [e]; rfl)
  · exact .inl (by rw [e]; rfl)

/-- An instruction leaves `hasEnded` set only where it found it set, or is the tick that ends the stream
(44_mpeg_transfer.md R190, R200). -/
theorem exec_hasEnded {i : Instr} {s t : State} (h : exec i s = .next t) (ht : t.mpeg.hasEnded = true) :
    s.mpeg.hasEnded = true ∨ (i = .evTick ∧ s.mpeg.atEnd Config.board = true) := by
  cases exec_next h with
  | status d =>
    obtain ⟨-, e⟩ | ⟨-, -, e⟩ | ⟨-, -, -, e⟩ := statusWrite_cases d s <;> rw [e] at ht
    · exact .inl ht
    · exact .inl ht
    · cases ht
  | reset => cases ht
  | control d => exact .inl (Bool.and_eq_true_iff.1 ht).1
  | frameSync b =>
    refine .inl ?_
    simp only [State.answer_mpeg, State.withMpeg_mpeg, MpegChannel.frameSync] at ht
    split at ht <;> exact ht
  | frameIdent b =>
    refine .inl ?_
    simp only [State.answer_mpeg, State.withMpeg_mpeg, MpegChannel.frameIdent] at ht
    split at ht <;> exact ht
  | tick =>
    obtain hsame | hend := tick_hasEnded Config.board s
    · exact .inl (hsame ▸ ht)
    · exact .inr ⟨rfl, hend⟩
  | bit d => rw [State.answer_mpeg, firmwareBitWrite_mpeg] at ht; exact .inl ht
  | pump => rw [State.answer_mpeg, pump_mpeg] at ht; exact .inl ht
  | _ => exact .inl ht

/-- Settles O39: an ended stream's tick is idle, and only the tick at the end sets `hasEnded`. -/
theorem endedStreamStaysEnded : Obligations.EndedStreamStaysEnded := by
  intro s t
  refine ⟨fun hrun hended => ?_, fun i h hs ht => ?_⟩
  · rw [exec_evTick_of_completed hrun, tick_of_hasEnded hended]
    rfl
  · obtain hset | ⟨hi, hend⟩ := exec_hasEnded h ht
    · exact absurd hset (Bool.eq_false_iff.1 hs)
    · obtain ⟨-, hstream, haddr, hcount⟩ := (s.mpeg.atEnd_iff _).1 hend
      exact ⟨hi, haddr, hcount, hstream⟩

/-! ### The distance to the end address -/

theorem Masked.toNat_lt {a : Addr} (h : Masked a) : a.toNat < 2 ^ 25 := by
  have hand : a &&& addrMask = a := by
    apply BitVec.eq_of_getLsbD_eq
    intro i hi
    have hbit := congrArg (·.getLsbD i) h
    simp only [BitVec.getLsbD_and, BitVec.getLsbD_not] at hbit ⊢
    cases ha : a.getLsbD i <;> simp_all
  calc a.toNat = a.toNat &&& addrMask.toNat := by rw [← BitVec.toNat_and, hand]
    _ ≤ addrMask.toNat := Nat.and_le_right
    _ < 2 ^ 25 := by decide

/-- Masking an even address wraps it at `2^25` (20_memory.md R42). -/
theorem toNat_and_addrMask {a : Addr} (h : a.toNat % 2 = 0) : (a &&& addrMask).toNat = a.toNat % 2 ^ 25 := by
  obtain ⟨k, hk⟩ := Nat.dvd_of_mod_eq_zero h
  have hmask : addrMask.toNat = (2 ^ 24 - 1) <<< 1 := rfl
  have ha : a.toNat = k <<< 1 := by rw [hk, Nat.shiftLeft_eq]; omega
  rw [BitVec.toNat_and, hmask, ha, ← Nat.shiftLeft_and_distrib, Nat.and_two_pow_sub_one_eq_mod]
  simp only [Nat.shiftLeft_eq]
  omega

theorem toNat_nextAddr {a : Addr} (h : Masked a) : (nextAddr a).toNat = (a.toNat + 2) % 2 ^ 25 := by
  have heven := h.even
  have hlt := h.toNat_lt
  have hadd : (a + 2).toNat = a.toNat + 2 :=
    (BitVec.toNat_add a 2).trans (Nat.mod_eq_of_lt (show a.toNat + 2 < 2 ^ 32 by omega))
  rw [nextAddr, toNat_and_addrMask (by omega), hadd]

/-- How far the end address is ahead, in bytes and around the end of the store (44_mpeg_transfer.md R201). -/
def MpegChannel.distance (m : MpegChannel) : Nat := (m.endAddr - m.currentAddr).toNat % 2 ^ 25

theorem distance_eq_zero_iff {m : MpegChannel} (h : StreamMasked m) :
    m.distance = 0 ↔ m.currentAddr = m.endAddr := by
  have hcurrent := h.1.toNat_lt
  have hend := h.2.toNat_lt
  rw [MpegChannel.distance, BitVec.toNat_sub, BitVec.toNat_eq]
  omega

/-- Moving to the next word brings the end two bytes nearer, unless it is reached already. -/
theorem distance_nextAddr {m : MpegChannel} (h : StreamMasked m) (hne : m.currentAddr ≠ m.endAddr) :
    { m with currentAddr := nextAddr m.currentAddr }.distance + 2 = m.distance := by
  obtain ⟨hcurrent, hend⟩ := h
  have hcurrentLt := hcurrent.toNat_lt
  have hendLt := hend.toNat_lt
  have hcurrentEven := hcurrent.even
  have hendEven := hend.even
  rw [ne_eq, BitVec.toNat_eq] at hne
  simp only [MpegChannel.distance, BitVec.toNat_sub, toNat_nextAddr hcurrent]
  omega

/-! ### A whole stream -/

/-- The engine is sending a stream: there is demand, both enables are set, the stream has not ended, and its
addresses are masked (44_mpeg_transfer.md R200, R201). -/
structure MpegChannel.Sending (c : Config) (m : MpegChannel) : Prop where
  sends : m.sends c = true
  masked : StreamMasked m

/-- The bytes a stream has still to send: those of the words ahead and those in the pipeline. -/
def MpegChannel.bytesLeft (m : MpegChannel) : Nat := m.distance + m.pendingByteCount.val

/-- What a tick that sends byte `b` does to what a stream's bytes are counted by. -/
structure SendsByte (c : Config) (s t : State) (b : Byte) : Prop where
  sending : t.mpeg.Sending c
  bytesLeft : t.mpeg.bytesLeft + 1 = s.mpeg.bytesLeft
  endAddr : t.mpeg.endAddr = s.mpeg.endAddr
  ctrl : t.mpeg.ctrl = s.mpeg.ctrl
  refused : t.refused = s.refused
  trace : t.trace = s.trace ++ [.byteSink b]

section
variable {c : Config} {s : State} (hs : s.mpeg.Sending c)
include hs

theorem sendByte_sendsByte (hcount : s.mpeg.pendingByteCount ≠ 0) :
    SendsByte c s s.sendByte (lowByte s.mpeg.pendingWord) where
  sending := ⟨hs.sends, hs.masked⟩
  bytesLeft := by
    have hsub : ∀ n : Fin 3, n ≠ 0 → (n - 1).val + 1 = n.val := by decide
    exact (Nat.add_assoc _ _ _).trans (congrArg (s.mpeg.distance + ·) (hsub _ hcount))
  endAddr := rfl
  ctrl := rfl
  refused := rfl
  trace := rfl

theorem produceWord_sendsByte (hcount : s.mpeg.pendingByteCount = 0)
    (hne : s.mpeg.currentAddr ≠ s.mpeg.endAddr) :
    SendsByte c s (s.produceWord c).sendByte (lowByte (s.produceWord c).mpeg.pendingWord) where
  sending := ⟨hs.sends, masked_nextAddr _, hs.masked.2⟩
  bytesLeft := by
    rw [MpegChannel.bytesLeft.eq_def s.mpeg, hcount, ← distance_nextAddr hs.masked hne]
    rfl
  endAddr := rfl
  ctrl := rfl
  refused := rfl
  trace := rfl

theorem atEnd_iff_bytesLeft_eq_zero : s.mpeg.atEnd c = true ↔ s.mpeg.bytesLeft = 0 := by
  obtain ⟨-, -, hstream, hended⟩ := (s.mpeg.sends_iff c).1 hs.sends
  rw [MpegChannel.atEnd_iff, MpegChannel.bytesLeft, Nat.add_eq_zero_iff, distance_eq_zero_iff hs.masked,
    Fin.val_eq_zero_iff]
  simp only [hended, hstream, true_and]

/-- While bytes are left, every tick sends one (44_mpeg_transfer.md R200). -/
theorem tick_sendsByte (hleft : s.mpeg.bytesLeft ≠ 0) : ∃ b, SendsByte c s (s.tick c) b := by
  have hend : ¬ s.mpeg.atEnd c = true := (atEnd_iff_bytesLeft_eq_zero hs).not.2 hleft
  rw [tick_of_sends hend hs.sends]
  split
  next hcount =>
    refine ⟨_, produceWord_sendsByte hs hcount fun haddr => hleft ?_⟩
    rw [MpegChannel.bytesLeft, (distance_eq_zero_iff hs.masked).2 haddr, hcount]
    rfl
  next hcount => exact ⟨_, sendByte_sendsByte hs hcount⟩

/-- With no byte left the tick ends the stream (44_mpeg_transfer.md R200). -/
theorem tick_ends (hleft : s.mpeg.bytesLeft = 0) :
    s.tick c =
      s.withMpeg { s.mpeg with hasEnded := true, ctrl := clearBit s.mpeg.ctrl c.streamBit } :=
  tick_of_atEnd ((s.mpeg.sends_iff c).1 hs.sends).1 ((atEnd_iff_bytesLeft_eq_zero hs).2 hleft)

end

/-- A stream's state after it has sent `n` bytes and ended (44_mpeg_transfer.md R201). -/
structure StreamEnded (c : Config) (n : Nat) (s t : State) : Prop where
  trace : ∃ bytes : List Byte, bytes.length = n ∧ t.trace = s.trace ++ bytes.map CallOut.byteSink
  hasEnded : t.mpeg.hasEnded = true
  currentAddr : t.mpeg.currentAddr = s.mpeg.endAddr
  endAddr : t.mpeg.endAddr = s.mpeg.endAddr
  pendingByteCount : t.mpeg.pendingByteCount = 0
  ctrl : t.mpeg.ctrl = clearBit s.mpeg.ctrl c.streamBit

theorem streamEnded_of_atEnd {c : Config} {s : State} (h : s.mpeg.atEnd c = true) :
    StreamEnded c 0 s ((s.withMpeg
      { s.mpeg with hasEnded := true, ctrl := clearBit s.mpeg.ctrl c.streamBit }).answer none) :=
  have ⟨_, _, haddr, hcount⟩ := (s.mpeg.atEnd_iff c).1 h
  { trace := ⟨[], rfl, (List.append_nil _).symm⟩, hasEnded := rfl, currentAddr := haddr, endAddr := rfl,
    pendingByteCount := hcount, ctrl := rfl }

theorem SendsByte.streamEnded {c : Config} {n : Nat} {s t u : State} {b : Byte} (hb : SendsByte c s t b)
    (hu : StreamEnded c n (t.answer none) u) : StreamEnded c (n + 1) s u where
  trace := by
    obtain ⟨bytes, hlength, htrace⟩ := hu.trace
    exact ⟨b :: bytes, congrArg (· + 1) hlength, by
      rw [htrace, State.answer_trace, hb.trace, List.append_assoc]; rfl⟩
  hasEnded := hu.hasEnded
  currentAddr := hu.currentAddr.trans hb.endAddr
  endAddr := hu.endAddr.trans hb.endAddr
  pendingByteCount := hu.pendingByteCount
  ctrl := hu.ctrl.trans (congrArg (clearBit · c.streamBit) hb.ctrl)

/-- By induction on the bytes left: each tick sends one, and the tick after the last ends the stream. -/
theorem execAll_ticks {n : Nat} {s : State} (hrun : s.refused = none)
    (hs : s.mpeg.Sending Config.board) (hn : s.mpeg.bytesLeft = n) :
    ∃ t, execAll (List.replicate (n + 1) .evTick) s = .next t ∧ StreamEnded Config.board n s t := by
  induction n generalizing s with
  | zero =>
    refine ⟨_, ?_, streamEnded_of_atEnd ((atEnd_iff_bytesLeft_eq_zero hs).2 hn)⟩
    rw [← tick_ends hs hn]
    exact (execAll_singleton _ _).trans (exec_evTick_of_completed hrun)
  | succ n ih =>
    obtain ⟨b, hb⟩ := tick_sendsByte hs (hn ▸ Nat.succ_ne_zero n)
    have hleft : (s.tick Config.board).mpeg.bytesLeft = n := Nat.succ.inj (hb.bytesLeft.trans hn)
    obtain ⟨t, hticks, ht⟩ := ih (s := (s.tick Config.board).answer none) (hb.refused.trans hrun)
      hb.sending hleft
    refine ⟨t, ?_, hb.streamEnded ht⟩
    rw [List.replicate_succ, execAll, exec_evTick_of_completed hrun]
    exact hticks

/-- Settles O38: with an empty pipeline the bytes left are the distance to the end address. -/
theorem streamSendsItsBytesAndEnds : Obligations.StreamSendsItsBytesAndEnds := by
  intro s hrun hdemand hended hstream hmpeg hcount hcurrent hend n
  have hs : s.mpeg.Sending Config.board :=
    ⟨(s.mpeg.sends_iff _).2 ⟨hdemand, hmpeg, hstream, hended⟩, hcurrent, hend⟩
  have hn : s.mpeg.bytesLeft = n := by rw [MpegChannel.bytesLeft, hcount]; rfl
  obtain ⟨t, hticks, ht⟩ := execAll_ticks hrun hs hn
  exact ⟨t, hticks, ht.trace, ht.hasEnded, ht.currentAddr, ht.endAddr, ht.pendingByteCount, ht.ctrl⟩

end Sys2Proof.Machine
end

section
/-! PROOFS. The transfer engine's registers and the decoder's callbacks (44_mpeg_transfer.md R180 to R198,
R203 to R206). -/

namespace Sys2Proof.Machine

/-! ### Streaming, and the words the control and status reads return -/

/-- "Is streaming" in the comparisons of its rule (44_mpeg_transfer.md R184). -/
theorem isStreaming_eq (c : Config) (m : MpegChannel) :
    m.isStreaming c =
      (streamEn c m.ctrl &&
        (decide (m.currentAddr ≠ m.endAddr) || decide (0 < m.pendingByteCount.val)) && !m.hasEnded) := by
  have hcount : ∀ n : Fin 3, (n != 0) = decide (0 < n.val) := by decide
  have haddr : (m.currentAddr != m.endAddr) = decide (m.currentAddr ≠ m.endAddr) :=
    Bool.eq_iff_iff.2 (by rw [bne_iff_ne, decide_eq_true_eq])
  rw [MpegChannel.isStreaming, hcount, haddr]

theorem isStreaming_iff (c : Config) (m : MpegChannel) :
    m.isStreaming c = true ↔
      streamEn c m.ctrl = true ∧ (m.currentAddr ≠ m.endAddr ∨ 0 < m.pendingByteCount.val) ∧
        m.hasEnded = false := by
  simp only [isStreaming_eq, Bool.and_eq_true, Bool.or_eq_true, decide_eq_true_eq, Bool.not_eq_true',
    and_assoc]

theorem getLsbD_streamingMask : ∀ k < 16, (0x1000 : Word).getLsbD k = decide (k = 12) := by decide

/-- Bit 12 of the control read is "is streaming", every other bit the stored one (44_mpeg_transfer.md
R191). -/
theorem getLsbD_ctrlRead (c : Config) (m : MpegChannel) {k : Nat} (hk : k < 16) :
    (m.ctrlRead c).getLsbD k = if k = 12 then m.isStreaming c else m.ctrl.getLsbD k := by
  simp only [MpegChannel.ctrlRead, BitVec.getLsbD_or, BitVec.getLsbD_and, BitVec.getLsbD_not,
    getLsbD_streamingMask k hk, getLsbD_boolAt]
  by_cases h : k = 12 <;> simp [h, hk]

/-- The places of the status bits are pairwise distinct (00_scope.md R5). -/
theorem statPlace_ne (c : Config) {i j : Fin 16} (h : i ≠ j) : (c.statPlace i).val ≠ (c.statPlace j).val :=
  fun hij => h (c.statPlace.injective (Fin.val_injective hij))

/-- The status word bit by bit: the places are distinct, so one bit at most stands at each
(44_mpeg_transfer.md R192). -/
theorem getLsbD_statusRead (c : Config) (m : MpegChannel) {k : Nat} (hk : k < 16) :
    (m.statusRead c).getLsbD k =
      if k = c.demandBit then m.demand
      else if k = c.crcBit then m.crcError
      else if k = c.playBit then m.playing
      else decide (k = c.enBit) := by
  simp only [MpegChannel.statusRead, BitVec.getLsbD_or, getLsbD_boolAt, hk, true_and, Bool.and_true]
  have hdc : c.demandBit ≠ c.crcBit := statPlace_ne c (by decide)
  have hdp : c.demandBit ≠ c.playBit := statPlace_ne c (by decide)
  have hde : c.demandBit ≠ c.enBit := statPlace_ne c (by decide)
  have hcp : c.crcBit ≠ c.playBit := statPlace_ne c (by decide)
  have hce : c.crcBit ≠ c.enBit := statPlace_ne c (by decide)
  have hpe : c.playBit ≠ c.enBit := statPlace_ne c (by decide)
  split
  next h => subst h; simp [hdc, hdp, hde]
  next hd =>
    split
    next h => subst h; simp [hd, hcp, hce]
    next hc =>
      split
      next h => subst h; simp [hd, hc, hpe]
      next hp => simp [hd, hc, hp]

/-! ### The values and effects of the timer -/

theorem timerHigh_eq (c : Config) (s : State) :
    s.timerHigh c =
      if s.cipher.variant = .alternate then c.altTimerHi
      else BitVec.ofNat 16 (s.mpeg.sampleCounter.toNat / 2 ^ 16) := by
  unfold State.timerHigh
  split
  next h => rw [if_pos h]
  next h => rw [if_neg (by rw [h]; decide), ← Nat.shiftRight_eq_div_pow]; rfl

theorem latchTimerHigh_eq (s : State) :
    s.latchTimerHigh = if s.cipher.variant = .alternate then s else s.latchTimer := by
  unfold State.latchTimerHigh
  split
  next h => rw [if_pos h]
  next h => rw [if_neg (by rw [h]; decide)]

theorem timerLow_eq (m : MpegChannel) : m.timerLow = m.sampleCounter.setWidth 16 :=
  (BitVec.setWidth_eq_extractLsb' (by decide)).symm

theorem timerDiff_eq (m : MpegChannel) :
    m.timerDiff = (m.sampleCounter - m.sampleCounterLatched).setWidth 16 :=
  (BitVec.setWidth_eq_extractLsb' (by decide)).symm

/-- A low-timer write, `timerEnabled` chosen by the variant (44_mpeg_transfer.md R197). -/
theorem timerWrite_eq (c : Config) (s : State) :
    s.timerWrite c = s.withMpeg { s.mpeg with
      sampleCounter := 0
      sampleCounterLatched := 0
      timerEnabled :=
        if s.cipher.variant = .alternate then s.mpeg.timerEnabled else s.mpeg.isStreaming c } := by
  unfold State.timerWrite
  split
  next h => rw [if_pos h]
  next h => rw [if_neg (by rw [h]; decide)]

/-! ### The control write -/

/-- The control write in the two cases of an end that is cleared or not (44_mpeg_transfer.md R190). -/
theorem ctrlWrite_eq (c : Config) (d : Word) (s : State) :
    s.ctrlWrite c d = { s with
      mpeg := { s.mpeg.ctrlWrite c s.cipher.variant d with
        hasEnded := if s.mpeg.endCleared c d then false else s.mpeg.hasEnded }
      trace := if s.mpeg.endCleared c d then s.trace ++ [.resetMpegState] else s.trace } := by
  unfold State.ctrlWrite MpegChannel.ctrlWrite State.emit State.withMpeg
  cases s.mpeg.endCleared c d with
  | true => simp only [Bool.not_true, Bool.and_false, if_true]
  | false => simp only [Bool.not_false, Bool.and_true, Bool.false_eq_true, if_false, List.append_nil]

/-! ### The callbacks -/

/-- Frame-sync with its conditions as propositions (44_mpeg_transfer.md R203). -/
theorem frameSync_eq (c : Config) (b : Bool) (m : MpegChannel) :
    m.frameSync c b =
      if b = true ∧ frameCountEn c m.ctrl = true then
        { m with
          playing := b
          timerEnabled := if m.frameCounter = 0 then true else m.timerEnabled
          frameCounter := m.frameCounter + 1 }
      else { m with playing := b } := by
  have hfirst : (m.timerEnabled || m.frameCounter == 0) =
      if m.frameCounter = 0 then true else m.timerEnabled := by
    split
    next h => rw [h, beq_self_eq_true, Bool.or_true]
    next h => rw [beq_false_of_ne h, Bool.or_false]
  simp only [MpegChannel.frameSync, hfirst, Bool.and_eq_true]

/-- Frame-identification touches the sample counter only (44_mpeg_transfer.md R205). -/
theorem frameIdent_eq (c : Config) (b : Bool) (m : MpegChannel) :
    m.frameIdent c b =
      { m with sampleCounter :=
          if mpegEn c m.ctrl = true ∧ m.timerEnabled = true ∧ b = true then m.sampleCounter + 1
          else m.sampleCounter } := by
  have hcond : (b && m.timerEnabled && mpegEn c m.ctrl) = true ↔
      mpegEn c m.ctrl = true ∧ m.timerEnabled = true ∧ b = true := by
    simp only [Bool.and_eq_true]; tauto
  simp only [MpegChannel.frameIdent, hcond]
  split <;> rfl

/-! ### The registers with the gate open -/

section
variable {s : State} (hs : s.live) (d : Word)
include hs

theorem exec_wrMpegStartHi_of_live :
    exec (.wrMpegStartHi d) s =
      .next ((s.withMpeg { s.mpeg with currentAddr := withHighHalf d s.mpeg.currentAddr }).answer none) :=
  writeGated_of_live hs _

theorem exec_wrMpegStartLo_of_live :
    exec (.wrMpegStartLo d) s =
      .next ((s.withMpeg { s.mpeg with currentAddr := withLowHalf d s.mpeg.currentAddr }).answer none) :=
  writeGated_of_live hs _

theorem exec_wrMpegEndHi_of_live :
    exec (.wrMpegEndHi d) s =
      .next ((s.withMpeg { s.mpeg with endAddr := withHighHalf d s.mpeg.endAddr }).answer none) :=
  writeGated_of_live hs _

theorem exec_wrMpegEndLo_of_live :
    exec (.wrMpegEndLo d) s =
      .next ((s.withMpeg { s.mpeg with endAddr := withLowHalf d s.mpeg.endAddr }).answer none) :=
  writeGated_of_live hs _

theorem exec_wrMpegCtrl_of_live :
    exec (.wrMpegCtrl d) s = .next ((s.ctrlWrite Config.board d).answer none) :=
  writeGated_of_live hs _

theorem exec_wrTimerLo_of_live :
    exec (.wrTimerLo d) s = .next ((s.timerWrite Config.board).answer none) :=
  writeGated_of_live hs _

theorem exec_wrMpegStatus_of_live : exec (.wrMpegStatus d) s = .next (s.answer none) :=
  writeGated_of_live hs id

theorem exec_mpegCtrl_of_live {i : Instr} (hi : i = .rdMpegCtrl ∨ i = .irdMpegCtrl) :
    exec i s = .next (s.answer (some (s.mpeg.ctrlRead Config.board))) := by
  obtain rfl | rfl := hi <;> exact peekGated_of_live hs fun s => s.mpeg.ctrlRead Config.board

theorem exec_mpegStatus_of_live {i : Instr} (hi : i = .rdMpegStatus ∨ i = .irdMpegStatus) :
    exec i s = .next (s.answer (some (s.mpeg.statusRead Config.board))) := by
  obtain rfl | rfl := hi <;> exact peekGated_of_live hs fun s => s.mpeg.statusRead Config.board

end

/-! ### The statements -/

/-- Settles O31: each half is its register's effect, and the gate's write adds only the empty answer. -/
theorem transferAddressesSet : Obligations.TransferAddressesSet := by
  intro s d hrun hopen hi lo
  have hs : s.live := ⟨hrun, hopen⟩
  exact ⟨exec_wrMpegStartHi_of_live hs d, exec_wrMpegStartLo_of_live hs d,
    exec_wrMpegEndHi_of_live hs d, exec_wrMpegEndLo_of_live hs d⟩

/-- Settles O32: the edges of the statement are the model's, on the control word before the write. -/
theorem controlWriteActs : Obligations.ControlWriteActs := by
  intro s d hrun hopen S Mp old rises clears
  rw [exec_wrMpegCtrl_of_live ⟨hrun, hopen⟩, ctrlWrite_eq]
  rfl

/-- Settles O33: the bits of the word both reads return. -/
theorem controlReadReportsStreaming : Obligations.ControlReadReportsStreaming := by
  intro s hrun hopen i hi
  refine ⟨_, exec_mpegCtrl_of_live ⟨hrun, hopen⟩ hi, fun k hk hne => ?_, ?_⟩
  · rw [getLsbD_ctrlRead _ _ hk, if_neg hne]
  · rw [getLsbD_ctrlRead _ _ (by decide), if_pos rfl]
    exact isStreaming_iff _ _

/-- Settles O34: the bits of the word both reads return. -/
theorem statusReadsFourBits : Obligations.StatusReadsFourBits := by
  intro s d hrun hopen
  have hs : s.live := ⟨hrun, hopen⟩
  exact ⟨exec_wrMpegStatus_of_live hs d, fun i hi =>
    ⟨_, exec_mpegStatus_of_live hs hi, fun k hk => getLsbD_statusRead _ _ hk⟩⟩

/-- Settles O35: each value and effect in the statement's own words; an inspection has the value only. -/
theorem timerReadsLatchAndClear : Obligations.TimerReadsLatchAndClear := by
  intro s hrun hopen n latched high low diff
  have hs : s.live := ⟨hrun, hopen⟩
  have hhigh : s.timerHigh Config.board = high := timerHigh_eq _ s
  have hlow : s.mpeg.timerLow = low := timerLow_eq _
  have hdiff : s.mpeg.timerDiff = diff := timerDiff_eq _
  have heffect : s.latchTimerHigh = if s.cipher.variant = .alternate then s else latched :=
    latchTimerHigh_eq s
  rw [← hhigh, ← hlow, ← hdiff, ← heffect]
  exact ⟨readGated_of_live hs _ _, readGated_of_live hs (fun s => s.mpeg.timerLow) _,
    readGated_of_live hs (fun s => s.mpeg.timerDiff) _, peekGated_of_live hs _,
    peekGated_of_live hs fun s => s.mpeg.timerLow, peekGated_of_live hs fun s => s.mpeg.timerDiff⟩

/-- Settles O36: the write's effect with "is streaming" spelled out. -/
theorem timerWriteClearsCounters : Obligations.TimerWriteClearsCounters := by
  intro s d hrun hopen
  rw [exec_wrTimerLo_of_live ⟨hrun, hopen⟩, timerWrite_eq, isStreaming_eq]
  rfl

/-- Settles O40: the events stand outside the gate, and each is its callback. -/
theorem decoderCallbacksAct : Obligations.DecoderCallbacksAct := by
  intro s b hrun
  refine ⟨(writeUngated_of_completed hrun _).trans ?_, writeUngated_of_completed hrun _,
    (writeUngated_of_completed hrun _).trans ?_, writeUngated_of_completed hrun _⟩
  · rw [frameSync_eq]; rfl
  · rw [frameIdent_eq]; rfl

end Sys2Proof.Machine
end

section
/-! PROOFS. The framer over whole sequences of bytes (45_network.md R230, R231). -/

namespace Sys2Proof.Machine

/-- The framer on a buffer it leaves: a delimiter opens, is absorbed or completes a frame, and any other
byte is dropped or appended. -/
theorem frameStep_of_bufferOk {buf : List Byte} (h : BufferOk buf) (b : Byte) :
    frameStep buf b =
      if b = delim then
        if buf.length < 2 then ([delim], none) else ([], some (buf ++ [delim]))
      else if buf = [] then ([], none) else (buf ++ [b], none) := by
  rcases frameStep_cases buf b with ⟨hbuf, hb, e⟩ | ⟨hbuf, hb, e⟩ | ⟨hbuf, hb, e⟩ | ⟨hlen, -, hb, e⟩ |
    ⟨hbuf, hb, e⟩ <;> rw [e]
  · rw [if_neg hb, if_pos hbuf]
  · rw [if_pos hb, if_pos (by simp [hbuf])]
  · rw [if_pos hb, if_pos (by simp [hbuf])]
  · rw [if_pos hb, if_neg (by omega)]
  · have hne : b ≠ delim := by
      obtain rfl | ⟨p, rfl, -⟩ := h
      · exact absurd rfl hbuf
      · simpa using hb
    rw [if_neg hne, if_neg hbuf]

theorem framesOf_singleton (buf : List Byte) (b : Byte) :
    framesOf buf [b] = ((frameStep buf b).2.toList, (frameStep buf b).1) := by
  rw [framesOf_cons, framesOf_nil, List.append_nil]

/-- Bytes that are no delimiter are appended to a frame begun. -/
theorem framesOf_payload {q p : List Byte} (hq : delim ∉ q) (hp : delim ∉ p) :
    framesOf (delim :: q) p = ([], delim :: (q ++ p)) := by
  induction p generalizing q with
  | nil => rw [framesOf_nil, List.append_nil]
  | cons b p ih =>
    obtain ⟨hb, hp⟩ : delim ≠ b ∧ delim ∉ p := by simpa using hp
    have hqb : delim ∉ q ++ [b] := by simp [hq, hb]
    have hstep : frameStep (delim :: q) b = (delim :: (q ++ [b]), none) := by
      rw [frameStep_of_bufferOk (.inr ⟨q, rfl, hq⟩), if_neg (Ne.symm hb), if_neg (List.cons_ne_nil _ _)]
      rfl
    rw [framesOf_cons, hstep, ih hqb hp, List.append_assoc]
    rfl

/-- A buffer the framer leaves is what it makes of the same bytes from an empty one. -/
theorem framesOf_of_bufferOk {buf : List Byte} (h : BufferOk buf) : framesOf [] buf = ([], buf) := by
  obtain rfl | ⟨p, rfl, hp⟩ := h
  · rfl
  · have hopen : framesOf [] [delim] = ([], [delim]) := rfl
    rw [← List.singleton_append, framesOf_append, hopen, framesOf_payload List.not_mem_nil hp]
    rfl

/-- A payload between two delimiters is one frame, and leaves the buffer empty (45_network.md R247). -/
theorem framesOf_frame {p : List Byte} (hne : p ≠ []) (hp : delim ∉ p) :
    framesOf [] (delim :: p ++ [delim]) = ([delim :: p ++ [delim]], []) := by
  have hbegun : BufferOk (delim :: p) := .inr ⟨p, rfl, hp⟩
  have hlen : ¬ (delim :: p).length < 2 := by
    have := List.length_pos_iff.2 hne
    rw [List.length_cons]; omega
  rw [framesOf_append, framesOf_of_bufferOk hbegun, framesOf_singleton, frameStep_of_bufferOk hbegun,
    if_pos rfl, if_neg hlen]
  rfl

/-- What stands of a frame before its last bytes arrive is a buffer the framer leaves. -/
theorem bufferOk_of_append_eq_frame {buf bytes p : List Byte} (hp : delim ∉ p) (hbytes : bytes ≠ [])
    (h : buf ++ bytes = delim :: p ++ [delim]) : BufferOk buf := by
  obtain ⟨init, last, rfl⟩ := List.eq_nil_or_concat' bytes |>.resolve_left hbytes
  rw [← List.append_assoc] at h
  obtain ⟨hinit, -⟩ := List.append_inj' h rfl
  cases buf with
  | nil => exact .inl rfl
  | cons b q =>
    obtain ⟨rfl, rfl⟩ := List.cons.inj hinit
    exact .inr ⟨q, rfl, fun hq => hp (List.mem_append_left _ hq)⟩

/-- The bytes that make a buffer one whole frame complete exactly that frame, however much of it stood in
the buffer before (45_network.md R247). -/
theorem framesOf_completing {buf bytes p : List Byte} (hne : p ≠ []) (hp : delim ∉ p) (hbytes : bytes ≠ [])
    (h : buf ++ bytes = delim :: p ++ [delim]) :
    framesOf buf bytes = ([delim :: p ++ [delim]], []) := by
  have hbuf : framesOf [] buf = ([], buf) := framesOf_of_bufferOk (bufferOk_of_append_eq_frame hp hbytes h)
  have hwhole := framesOf_frame hne hp
  rwa [← h, framesOf_append, hbuf, h] at hwhole

theorem FrameOk.three_le_length {f : List Byte} (h : FrameOk f) : 3 ≤ f.length := by
  obtain ⟨p, hne, -, rfl⟩ := h
  have := List.length_pos_iff.2 hne
  simp only [List.length_cons, List.length_append, List.length_nil]
  omega

end Sys2Proof.Machine
end

section
/-! PROOFS. The host's side of the network multiplexer: the bytes written, the registers, and byte
conservation (45_network.md R232 to R239, R245 to R247). -/

namespace Sys2Proof.Machine

/-! ### The bytes written -/

/-- The bytes of a list of frames, counted. -/
def totalBytes (frames : List (List Byte)) : Nat := (frames.map List.length).sum

@[simp] theorem totalBytes_nil : totalBytes [] = 0 := rfl

@[simp] theorem totalBytes_cons (f : List Byte) (fs : List (List Byte)) :
    totalBytes (f :: fs) = f.length + totalBytes fs := List.sum_cons

@[simp] theorem totalBytes_append (fs gs : List (List Byte)) :
    totalBytes (fs ++ gs) = totalBytes fs + totalBytes gs := by
  rw [totalBytes, List.map_append, List.sum_append]; rfl

/-- A byte written queues and counts the frame it completes, if any (45_network.md R232). -/
theorem writeByte_eq (b : Byte) (n : NetState) :
    n.writeByte b = { n with
      outputFrame := (frameStep n.outputFrame b).1
      outputQueue := n.outputQueue ++ (frameStep n.outputFrame b).2.toList
      outputByteCount :=
        n.outputByteCount + BitVec.ofNat 16 (totalBytes (frameStep n.outputFrame b).2.toList) } := by
  unfold NetState.writeByte
  rcases frameStep n.outputFrame b with ⟨buf, _ | frame⟩
  · simp
  · simp [count16]

/-- Bytes written one after another queue and count the frames they complete (45_network.md R232, R247). -/
theorem foldl_writeByte (bytes : List Byte) (n : NetState) :
    bytes.foldl (fun n b => n.writeByte b) n = { n with
      outputFrame := (framesOf n.outputFrame bytes).2
      outputQueue := n.outputQueue ++ (framesOf n.outputFrame bytes).1
      outputByteCount :=
        n.outputByteCount + BitVec.ofNat 16 (totalBytes (framesOf n.outputFrame bytes).1) } := by
  induction bytes generalizing n with
  | nil => simp
  | cons b bs ih =>
    rw [List.foldl_cons, ih, writeByte_eq]
    simp only [framesOf_cons, totalBytes_append, List.append_assoc, BitVec.ofNat_add, BitVec.add_assoc]

/-! ### Byte conservation -/

theorem conserved_iff (n : NetState) :
    Conserved n ↔ n.outputByteCount = BitVec.ofNat 16 (totalBytes n.outputQueue) := by
  rw [← BitVec.toNat_inj, BitVec.toNat_ofNat]
  rfl

theorem Conserved.writeByte {n : NetState} (b : Byte) (h : Conserved n) : Conserved (n.writeByte b) := by
  rw [conserved_iff] at h ⊢
  simp only [writeByte_eq, h, totalBytes_append, BitVec.ofNat_add]

/-- The oldest frame leaves the queue and is counted off (45_network.md R241). -/
theorem Conserved.send {n : NetState} {frame : List Byte} {rest : List (List Byte)}
    (hq : n.outputQueue = frame :: rest) (h : Conserved n) :
    Conserved { n with outputQueue := rest, outputByteCount := n.outputByteCount - count16 frame } := by
  rw [conserved_iff] at h ⊢
  rw [hq, totalBytes_cons, BitVec.ofNat_add, BitVec.add_comm] at h
  exact (congrArg (· - count16 frame) h).trans (BitVec.add_sub_cancel _ _)

theorem Conserved.receive {n : NetState} (i : Nat) (b : Byte) (h : Conserved n) :
    Conserved (n.receive i b) := by
  obtain ⟨-, -, hqueue, hcount⟩ := receive_outbound i n b
  unfold Conserved
  rwa [hqueue, hcount]

theorem NetChange.conserved {c : Config} {s : State} {n : NetState} (h : NetChange c s n)
    (hs : Conserved s.net) : Conserved n := by
  cases h with
  | same | pop | localId d => exact hs
  | reset | networkReset => exact (conserved_iff _).2 rfl
  | writeByte b => exact hs.writeByte b
  | pump => exact pump_keeps (fun i _ _ b hn => hn.receive i b) (fun _ _ _ hq hn => hn.send hq) hs

/-- Settles O50: every change of the network component keeps byte conservation. -/
theorem byteConservationKept : Obligations.ByteConservationKept := fun _ _ hs h =>
  step_keeps (P := fun s => Conserved s.net) (fun _ _ _ hs => hs) (fun _ _ hs => hs)
    (fun _ _ _ hs he => (exec_net he).conserved hs) hs h

/-! ### The registers with the gate open -/

section
variable {s : State} (hs : s.live)
include hs

theorem exec_wrNetData_of_live (d : Word) :
    exec (.wrNetData d) s = .next ({ s with net := s.net.writeByte (lowByte d) }.answer none) :=
  writeGated_of_live hs fun s => { s with net := s.net.writeByte (lowByte d) }

theorem exec_rdNetData_of_live :
    exec .rdNetData s = .next ({ s with net := s.net.pop }.answer (some s.net.front)) :=
  readGated_of_live hs (fun s => s.net.front) fun s => { s with net := s.net.pop }

theorem exec_irdNetData_of_live : exec .irdNetData s = .next (s.answer (some s.net.front)) :=
  peekGated_of_live hs fun s => s.net.front

theorem exec_netOutSize_of_live {i : Instr} (hi : i = .rdNetOutSize ∨ i = .irdNetOutSize) :
    exec i s = .next (s.answer (some s.net.outputByteCount)) := by
  obtain rfl | rfl := hi <;> exact peekGated_of_live hs fun s => s.net.outputByteCount

theorem exec_netInSize_of_live {i : Instr} (hi : i = .rdNetInSize ∨ i = .irdNetInSize) :
    exec i s = .next (s.answer (some (count16 s.net.muxedInput))) := by
  obtain rfl | rfl := hi <;> exact peekGated_of_live hs fun s => count16 s.net.muxedInput

theorem exec_wrNetReset_of_live (d : Word) :
    exec (.wrNetReset d) s = .next ({ s with net := s.net.networkReset }.answer none) :=
  writeGated_of_live hs fun s => { s with net := s.net.networkReset }

theorem exec_wrNetId_of_live (d : Word) :
    exec (.wrNetId d) s = .next ({ s with net := { s.net with localId := d } }.answer none) :=
  writeGated_of_live hs fun s => { s with net := { s.net with localId := d } }

end

/-- `netsend` writes its bytes one after another; a write returns nothing (30_encoding.md R69). -/
theorem execAll_netsend {s : State} (hs : s.live) (b : Byte) (bs : List Byte) :
    execAll (netsend (b :: bs)) s =
      .next ({ s with net := (b :: bs).foldl (fun n b => n.writeByte b) s.net }.answer none) := by
  have hlow : ∀ b : Byte, lowByte (b.setWidth 16) = b := fun b => by
    rw [lowByte_eq_setWidth, BitVec.setWidth_setWidth_of_le _ (by decide), BitVec.setWidth_eq]
  induction bs generalizing b s with
  | nil => rw [netsend, List.map_singleton, execAll_singleton, exec_wrNetData_of_live hs, hlow]; rfl
  | cons a bs ih =>
    rw [netsend, List.map_cons, execAll, exec_wrNetData_of_live hs, hlow]
    exact ih (by exact hs) a

/-! ### The statements -/

/-- Settles O41: the framer's case of the byte decides what is queued and counted. -/
theorem networkWriteFrames : Obligations.NetworkWriteFrames := by
  intro s d hrun hopen hok b buf
  have hstep : frameStep s.net.outputFrame b =
      if b = 0xC0 then if buf.length < 2 then ([0xC0], none) else ([], some (buf ++ [0xC0]))
      else if buf = [] then ([], none) else (buf ++ [b], none) := frameStep_of_bufferOk hok b
  rw [exec_wrNetData_of_live ⟨hrun, hopen⟩, lowByte_eq_setWidth, writeByte_eq, hstep]
  split
  next =>
    split
    next => simp [State.answer]
    next => simp [State.answer]
  next =>
    split
    next hempty => simp [State.answer, ← hempty, buf]
    next => simp [State.answer]

/-- Settles O42: the frame is completed by its last byte, and the size register reads the new count. -/
theorem netsendQueuesTheFrame : Obligations.NetsendQueuesTheFrame := by
  intro s p hrun hopen hempty hne hp
  have hframe : framesOf s.net.outputFrame (0xC0 :: (p ++ [0xC0])) =
      ([[0xC0] ++ p ++ [0xC0]], s.net.outputFrame) := by
    rw [hempty]; exact framesOf_frame hne hp
  have hcount : totalBytes [[0xC0] ++ p ++ [0xC0]] = p.length + 2 := by simp
  have hsend := execAll_netsend ⟨hrun, hopen⟩ 0xC0 (p ++ [0xC0])
  rw [foldl_writeByte, hframe, hcount] at hsend
  exact execAll_append_next hsend
    ((execAll_singleton _ _).trans (exec_netOutSize_of_live (by exact ⟨hrun, hopen⟩) (.inl rfl)))

/-- Settles O43: the pair is absorbed. -/
theorem degenerateFrameIsNeverQueued : Obligations.DegenerateFrameIsNeverQueued := by
  intro s hrun hopen hempty
  have hpair : framesOf s.net.outputFrame [0xC0, 0xC0] = ([], [0xC0]) := by rw [hempty]; rfl
  refine (execAll_netsend ⟨hrun, hopen⟩ 0xC0 [0xC0]).trans ?_
  rw [foldl_writeByte, hpair]
  simp [State.answer]

/-- Settles O44. -/
theorem networkReads : Obligations.NetworkReads := by
  intro s hrun hopen v
  have hs : s.live := ⟨hrun, hopen⟩
  have hfront : s.net.front = v := by
    unfold NetState.front
    cases hq : s.net.muxedInput with
    | nil => simp [v, hq]
    | cons b bs => simp [v, hq]
  refine ⟨?_, ?_, fun i hi => exec_netOutSize_of_live hs hi, fun i hi => exec_netInSize_of_live hs hi⟩
  · rw [exec_rdNetData_of_live hs, hfront, List.drop_one]; rfl
  · rw [exec_irdNetData_of_live hs, hfront]; rfl

/-- Settles O45. -/
theorem networkResetAndId : Obligations.NetworkResetAndId :=
  fun _ d hrun hopen => ⟨exec_wrNetReset_of_live ⟨hrun, hopen⟩ d, exec_wrNetId_of_live ⟨hrun, hopen⟩ d⟩

end Sys2Proof.Machine
end

section
/-! PROOFS. The pump: what every port's bytes do to the inbound side, and the oldest frame sent
(45_network.md R240 to R242, R244). -/

namespace Sys2Proof.Machine

/-! ### The outbound half -/

/-- The byte a call-out writes to a port. -/
def portByte (i : Nat) : CallOut → Option Byte
  | .portWrite j b => if j = i then some b else none
  | _ => none

theorem filterMap_portByte_map_portWrite {ports : List Nat} (hports : ports.Nodup) (b : Byte) (i : Nat) :
    (ports.map fun j => CallOut.portWrite j b).filterMap (portByte i) = if i ∈ ports then [b] else [] := by
  induction ports with
  | nil => rfl
  | cons j ports ih =>
    obtain ⟨hj, hports⟩ := List.nodup_cons.1 hports
    by_cases hij : j = i
    · subst hij
      simp [portByte, ih hports, hj]
    · simp [portByte, ih hports, hij, Ne.symm hij]

theorem mem_connectedPorts {c : Config} {e : Env} {i : Nat} :
    i ∈ connectedPorts c e ↔ i < c.numPorts ∧ (e.link i).connected = true := by
  rw [connectedPorts, List.mem_filter, List.mem_range]

theorem connectedPorts_nodup (c : Config) (e : Env) : (connectedPorts c e).Nodup :=
  List.nodup_range.filter _

/-- A port's projection of a frame's call-outs is the frame, if the port is connected (45_network.md
R241). -/
theorem filterMap_portByte_frameWrites (c : Config) (e : Env) (frame : List Byte) (i : Nat) :
    (frameWrites c e frame).filterMap (portByte i) = if i ∈ connectedPorts c e then frame else [] := by
  induction frame with
  | nil => rw [ite_self]; rfl
  | cons b frame ih =>
    rw [frameWrites, List.flatMap_cons, List.filterMap_append,
      filterMap_portByte_map_portWrite (connectedPorts_nodup c e), ← frameWrites, ih]
    split <;> rfl

theorem exists_portWrite_of_mem_frameWrites {c : Config} {e : Env} {frame : List Byte} {o : CallOut}
    (h : o ∈ frameWrites c e frame) : ∃ i b, o = .portWrite i b := by
  obtain ⟨b, -, hb⟩ := List.mem_flatMap.1 h
  obtain ⟨i, -, rfl⟩ := List.mem_map.1 hb
  exact ⟨i, b, rfl⟩

/-- The outbound half of a pump in one equation: an empty queue sends the empty frame (45_network.md
R241). -/
theorem pumpOutbound_eq (c : Config) (s : State) :
    s.pumpOutbound c =
      { s with net := { s.net with
        outputQueue := s.net.outputQueue.drop 1
        outputByteCount := s.net.outputByteCount - count16 (s.net.outputQueue.head?.getD []) } }.emit
      (frameWrites c s.env (s.net.outputQueue.head?.getD [])) := by
  obtain ⟨hq, e⟩ | ⟨frame, rest, hq, e⟩ := pumpOutbound_cases c s
  · have hdrop : s.net.outputQueue.drop 1 = s.net.outputQueue := by rw [hq]; rfl
    have hhead : s.net.outputQueue.head?.getD [] = [] := by rw [hq]; rfl
    rw [e, hdrop, hhead]
    simp [State.emit, frameWrites, count16]
  · rw [e, hq]
    rfl

/-- An open gate's pump: the inbound half, then the oldest frame, which the inbound half leaves queued
(45_network.md R242). -/
theorem pump_of_open (c : Config) {s : State} (h : s.fw.initialized = true) :
    s.pump c =
      { s with net := { s.net.pumpInbound c s.env with
        outputQueue := s.net.outputQueue.drop 1
        outputByteCount := s.net.outputByteCount - count16 (s.net.outputQueue.head?.getD []) } }.emit
      (frameWrites c s.env (s.net.outputQueue.head?.getD [])) := by
  obtain ⟨-, -, hqueue, hcount⟩ := pumpInbound_outbound c s.env s.net
  rw [State.pump, gateOpen_eq, if_pos h, pumpOutbound_eq]
  simp only [hqueue, hcount]

theorem pump_of_closed (c : Config) {s : State} (h : s.fw.initialized = false) : s.pump c = s := by
  rw [State.pump, gateOpen_eq, h, if_neg Bool.false_ne_true]

theorem exec_evPump_of_completed {s : State} (h : s.refused = none) :
    exec .evPump s = .next ((s.pump Config.board).answer none) :=
  writeUngated_of_completed h (State.pump Config.board)

theorem exec_evPump_next {s t : State} (h : exec .evPump s = .next t) :
    t = (s.pump Config.board).answer none :=
  ((perform_next_iff s t fun s => (s.pump Config.board).answer none).1 h).2

/-! ### The inbound half -/

/-- The frames whose origin, byte 1, is not the local id (45_network.md R240, R244). -/
def foreignFrames (localId : Word) (frames : List (List Byte)) : List (List Byte) :=
  frames.filter fun f => decide ((f.getD 1 0).setWidth 16 ≠ localId)

theorem mem_foreignFrames {localId : Word} {frames : List (List Byte)} {f : List Byte} :
    f ∈ foreignFrames localId frames ↔ f ∈ frames ∧ (f.getD 1 0).setWidth 16 ≠ localId := by
  rw [foreignFrames, List.mem_filter, decide_eq_true_eq]

theorem foreignFrames_append (localId : Word) (fs gs : List (List Byte)) :
    foreignFrames localId (fs ++ gs) = foreignFrames localId fs ++ foreignFrames localId gs :=
  List.filter_append ..

theorem flatten_foreignFrames_singleton (localId : Word) (f : List Byte) :
    (foreignFrames localId [f]).flatten = if (f.getD 1 0).setWidth 16 = localId then [] else f := by
  by_cases h : (f.getD 1 0).setWidth 16 = localId
  · have hlocal : ¬ decide ((f.getD 1 0).setWidth 16 ≠ localId) = true := by
      rw [decide_eq_true_eq]; exact not_not_intro h
    rw [foreignFrames, List.filter_cons_of_neg (by exact hlocal), if_pos h]
    rfl
  · rw [foreignFrames, List.filter_cons_of_pos (by exact decide_eq_true h), if_neg h]
    exact List.append_nil f

/-- A byte received appends the frame it completes, if any and if of another origin (45_network.md R240). -/
theorem receive_muxedInput (i : Nat) (n : NetState) (b : Byte) :
    (n.receive i b).muxedInput =
      n.muxedInput ++ (foreignFrames n.localId (frameStep (n.inputFrame.read i) b).2.toList).flatten := by
  unfold NetState.receive
  rcases frameStep (n.inputFrame.read i) b with ⟨buf, _ | frame⟩
  · exact (List.append_nil _).symm
  · rw [Option.toList_some, flatten_foreignFrames_singleton]
    dsimp only [NetState.acceptFrame]
    split
    · exact (List.append_nil _).symm
    · rfl

/-- What framing on a set of ports does: `frames` are completed in this order and the buffers become
`buffers`; the id and the table's canonical form are kept (45_network.md R240). -/
structure Received (n : NetState) (frames : List (List Byte)) (buffers : Nat → List Byte) (m : NetState) :
    Prop where
  localId : m.localId = n.localId
  wf : m.inputFrame.wf
  read : ∀ j, m.inputFrame.read j = buffers j
  muxedInput : m.muxedInput = n.muxedInput ++ (foreignFrames n.localId frames).flatten

theorem Received.refl {n : NetState} (h : n.inputFrame.wf) : Received n [] n.inputFrame.read n :=
  ⟨rfl, h, fun _ => rfl, (List.append_nil _).symm⟩

theorem Received.trans {n m k : NetState} {fs gs : List (List Byte)} {buffers buffers' : Nat → List Byte}
    (h : Received n fs buffers m) (h' : Received m gs buffers' k) : Received n (fs ++ gs) buffers' k where
  localId := h'.localId.trans h.localId
  wf := h'.wf
  read := h'.read
  muxedInput := by
    rw [h'.muxedInput, h.muxedInput, h.localId, foreignFrames_append, List.flatten_append,
      List.append_assoc]

theorem received_byte {n : NetState} (h : n.inputFrame.wf) (i : Nat) (b : Byte) :
    Received n (frameStep (n.inputFrame.read i) b).2.toList
      (Function.update n.inputFrame.read i (frameStep (n.inputFrame.read i) b).1) (n.receive i b) where
  localId := (receive_outbound i n b).1
  wf := by rw [receive_inputFrame]; exact PortTable.wf_write h _ _
  read j := by
    rw [receive_inputFrame]
    by_cases hj : j = i
    · subst hj; rw [Function.update_self, PortTable.read_write_same h]
    · rw [Function.update_of_ne hj, PortTable.read_write_other _ _ hj]
  muxedInput := receive_muxedInput i n b

/-- The bytes of one port complete the frames of the framer over its buffer (45_network.md R240). -/
theorem received_bytes {n : NetState} (h : n.inputFrame.wf) (i : Nat) (bytes : List Byte) :
    Received n (framesOf (n.inputFrame.read i) bytes).1
      (Function.update n.inputFrame.read i (framesOf (n.inputFrame.read i) bytes).2)
      (bytes.foldl (NetState.receive i) n) := by
  induction bytes generalizing n with
  | nil =>
    rw [framesOf_nil, Function.update_eq_self]
    exact .refl h
  | cons b bs ih =>
    have hb := received_byte h i b
    have hbs := ih hb.wf
    have hread : (n.receive i b).inputFrame.read =
        Function.update n.inputFrame.read i (frameStep (n.inputFrame.read i) b).1 := funext hb.read
    rw [hread, Function.update_self, Function.update_idem] at hbs
    exact hb.trans hbs

/-- The frames completed on a port at a pump, and the buffer left there; a port that is not connected
supplies nothing (45_network.md R240). -/
def portFrames (e : Env) (n : NetState) (i : Nat) : List (List Byte) × List Byte :=
  framesOf (n.inputFrame.read i) (if (e.link i).connected then (e.link i).bytes else [])

theorem received_port (e : Env) {n : NetState} (h : n.inputFrame.wf) (i : Nat) :
    Received n (portFrames e n i).1 (Function.update n.inputFrame.read i (portFrames e n i).2)
      (n.pumpPort e i) := by
  have hfold : n.pumpPort e i =
      (if (e.link i).connected then (e.link i).bytes else []).foldl (NetState.receive i) n := by
    unfold NetState.pumpPort
    split <;> rfl
  rw [hfold]
  exact received_bytes h i _

/-- The buffers after a pump of some ports (45_network.md R240). -/
def buffersAfter (e : Env) (n : NetState) (ports : List Nat) (j : Nat) : List Byte :=
  if j ∈ ports then (portFrames e n j).2 else n.inputFrame.read j

/-- Each port is framed over its own buffer, whatever the ports before it received (45_network.md R240). -/
theorem received_ports (e : Env) {n : NetState} (h : n.inputFrame.wf) {ports : List Nat}
    (hports : ports.Nodup) :
    Received n (ports.flatMap fun i => (portFrames e n i).1) (buffersAfter e n ports)
      (ports.foldl (NetState.pumpPort e) n) := by
  induction ports generalizing n with
  | nil => exact .refl h
  | cons i ports ih =>
    obtain ⟨hi, hports⟩ := List.nodup_cons.1 hports
    have hport := received_port e h i
    have hrest := ih hport.wf hports
    have hother : ∀ j, j ≠ i → (n.pumpPort e i).inputFrame.read j = n.inputFrame.read j := fun j hj => by
      rw [hport.read, Function.update_of_ne hj]
    have hsame : ∀ j ∈ ports, portFrames e (n.pumpPort e i) j = portFrames e n j := fun j hj => by
      rw [portFrames, portFrames, hother j fun hji => hi (hji ▸ hj)]
    have hbuffers : buffersAfter e (n.pumpPort e i) ports = buffersAfter e n (i :: ports) := by
      funext j
      by_cases hj : j ∈ ports
      · rw [buffersAfter, buffersAfter, if_pos hj, if_pos (List.mem_cons_of_mem _ hj), hsame j hj]
      · by_cases hji : j = i
        · subst hji
          rw [buffersAfter, buffersAfter, if_neg hj, if_pos List.mem_cons_self, hport.read,
            Function.update_self]
        · rw [buffersAfter, buffersAfter, if_neg hj, if_neg (by simp [hj, hji]), hother j hji]
    rw [List.flatMap_congr fun j hj => congrArg Prod.fst (hsame j hj), hbuffers] at hrest
    exact hport.trans hrest

theorem received_pumpInbound (c : Config) (e : Env) {n : NetState} (h : n.inputFrame.wf) :
    Received n ((List.range c.numPorts).flatMap fun i => (portFrames e n i).1)
      (buffersAfter e n (List.range c.numPorts)) (n.pumpInbound c e) :=
  received_ports e h List.nodup_range

/-- An open gate's pump receives what its inbound half does: the outbound half leaves the inbound side alone
(45_network.md R242). -/
theorem received_pump (c : Config) {s : State} (hopen : s.fw.initialized = true) (h : s.net.inputFrame.wf) :
    Received s.net ((List.range c.numPorts).flatMap fun i => (portFrames s.env s.net i).1)
      (buffersAfter s.env s.net (List.range c.numPorts)) (s.pump c).net := by
  rw [pump_of_open c hopen]
  obtain ⟨hid, hwf, hread, hmuxed⟩ := received_pumpInbound c s.env h
  exact ⟨hid, hwf, hread, hmuxed⟩

theorem portFrames_of_connected {e : Env} {i : Nat} (n : NetState) (h : (e.link i).connected = true) :
    portFrames e n i = framesOf (n.inputFrame.read i) (e.link i).bytes := by
  rw [portFrames, if_pos h]

/-- A port that supplies nothing completes no frame and keeps its buffer (45_network.md R240). -/
theorem portFrames_of_silent {e : Env} {i : Nat} (n : NetState)
    (h : (e.link i).connected = false ∨ (e.link i).bytes = []) :
    portFrames e n i = ([], n.inputFrame.read i) := by
  obtain h | h := h <;> simp [portFrames, h]

theorem flatMap_of_unique {α : Type} {l : List Nat} {f : Nat → List α} {i : Nat} (hl : l.Nodup) (hi : i ∈ l)
    (h : ∀ j, j ≠ i → f j = []) : l.flatMap f = f i := by
  obtain ⟨before, after, rfl⟩ := List.append_of_mem hi
  have hnotin : i ∉ before ++ after := (List.nodup_middle.1 hl).notMem
  have hnil : ∀ l' ⊆ before ++ after, l'.flatMap f = [] := fun l' hl' =>
    List.flatMap_eq_nil_iff.2 fun j hj => h j fun hji => hnotin (hji ▸ hl' hj)
  rw [List.flatMap_append, List.flatMap_cons, hnil before (List.subset_append_left ..),
    hnil after (List.subset_append_right ..), List.nil_append, List.append_nil]

/-- The frames of a port that is not connected are none, so the ports may be filtered. -/
theorem flatten_foreignFrames_flatMap (localId : Word) (e : Env) (n : NetState) (ports : List Nat) :
    (foreignFrames localId (ports.flatMap fun i => (portFrames e n i).1)).flatten =
      (ports.filter fun i => (e.link i).connected).flatMap fun i =>
        (foreignFrames localId (framesOf (n.inputFrame.read i) (e.link i).bytes).1).flatten := by
  induction ports with
  | nil => rfl
  | cons i ports ih =>
    rw [List.flatMap_cons, foreignFrames_append, List.flatten_append, ih]
    cases h : (e.link i).connected with
    | true =>
      rw [List.filter_cons_of_pos (by exact h), List.flatMap_cons, portFrames_of_connected n h]
    | false =>
      rw [List.filter_cons_of_neg (by rw [h]; exact Bool.false_ne_true), portFrames_of_silent n (.inl h)]
      rfl

/-! ### The statements -/

/-- Settles O46: an open gate's pump sends the oldest frame, and the inbound half leaves the outbound side
alone. -/
theorem pumpSendsOldestFrame : Obligations.PumpSendsOldestFrame := by
  intro s hrun
  refine ⟨_, exec_evPump_of_completed hrun, fun hclosed => ?_, fun hopen => ?_⟩
  · rw [pump_of_closed _ hclosed]; rfl
  · obtain ⟨hid, hframe, -, -⟩ := pumpInbound_outbound Config.board s.env s.net
    have hlength : (s.net.outputQueue.head?.map List.length).getD 0 =
        (s.net.outputQueue.head?.getD []).length := by
      cases s.net.outputQueue.head? <;> rfl
    rw [pump_of_open _ hopen, hlength]
    refine ⟨rfl, hframe, hid, rfl, rfl, _, rfl, fun _ => exists_portWrite_of_mem_frameWrites, fun i => ?_⟩
    refine (filterMap_portByte_frameWrites Config.board s.env _ i).trans ?_
    rw [if_congr mem_connectedPorts rfl rfl]
    rfl

/-- Settles O60: the ports that are not connected complete nothing and keep their buffers. -/
theorem pumpFramesEveryPort : Obligations.PumpFramesEveryPort := by
  intro s hrun hopen hwf link framed
  obtain ⟨-, -, hread, hmuxed⟩ := received_pump Config.board hopen hwf
  refine ⟨_, exec_evPump_of_completed hrun, ?_, fun i => (hread i).trans ?_⟩
  · exact hmuxed.trans (congrArg _ (flatten_foreignFrames_flatMap ..))
  · unfold buffersAfter
    cases hi : (link i).connected with
    | true =>
      rw [portFrames_of_connected _ hi]
      exact if_congr (List.mem_range.trans (and_iff_left rfl).symm) rfl rfl
    | false =>
      rw [portFrames_of_silent _ (.inl hi), ite_self, if_neg fun h => Bool.false_ne_true h.2]

/-- Settles O48: the frames forwarded are the framer's, and those of the local id are left out. -/
theorem pumpPreventsLoops : Obligations.PumpPreventsLoops := by
  intro s t hwf hok h
  obtain rfl := exec_evPump_next h
  cases hgate : s.fw.initialized with
  | false =>
    refine ⟨[], ?_, fun _ hf => nomatch hf⟩
    rw [State.answer_net, pump_of_closed _ hgate]
    exact (List.append_nil _).symm
  | true =>
    refine ⟨_, (received_pump Config.board hgate hwf).muxedInput, fun f hf => ?_⟩
    obtain ⟨hmem, horigin⟩ := mem_foreignFrames.1 hf
    obtain ⟨i, -, hi⟩ := List.mem_flatMap.1 hmem
    have hframe : FrameOk f := (framesOf_ok _ (hok i)).2 f hi
    exact ⟨hframe, hframe.three_le_length, horigin⟩

/-- Settles O47: the one port that supplies bytes completes one frame, and the others none. -/
theorem inboundFrameIsDelivered : Obligations.InboundFrameIsDelivered := by
  intro s i x p bytes hrun hopen hwf hi hp hbytes hframe hlink hothers
  obtain ⟨-, -, hread, hmuxed⟩ := received_pump Config.board hopen hwf
  have hport : portFrames s.env s.net i = ([[0xC0] ++ x :: p ++ [0xC0]], []) := by
    have hconnected : s.env.link i = ⟨true, bytes⟩ := hlink
    rw [portFrames, hconnected]
    exact framesOf_completing (List.cons_ne_nil x p) hp hbytes hframe
  have hsilent : ∀ j, j ≠ i → portFrames s.env s.net j = ([], s.net.inputFrame.read j) :=
    fun j hj => portFrames_of_silent _ (hothers j hj)
  refine ⟨_, exec_evPump_of_completed hrun, fun j => (hread j).trans ?_, hmuxed.trans ?_⟩
  · unfold buffersAfter
    by_cases hj : j = i
    · subst hj; rw [if_pos (List.mem_range.2 hi), if_pos rfl, hport]
    · rw [hsilent j hj, ite_self, if_neg hj]
  · have hframes : ((List.range Config.board.numPorts).flatMap fun j => (portFrames s.env s.net j).1) =
        [[0xC0] ++ x :: p ++ [0xC0]] := by
      rw [flatMap_of_unique List.nodup_range (List.mem_range.2 hi) fun j hj =>
        congrArg Prod.fst (hsilent j hj), hport]
    rw [hframes, flatten_foreignFrames_singleton]
    rfl

end Sys2Proof.Machine
end

section
/-! PROOFS. The output bank line by line: the edges of an output write, and what any instruction can do to
the lines and to the edges in the trace (46_identity_output.md R272 to R276, R279). -/

namespace Sys2Proof.Machine

/-! ### Lines -/

/-- What the `i`-th line of a latch that holds `v` shows (46_identity_output.md R272). -/
def lineBit (v : BitVec 4) (i : Nat) : Bool := v.getLsbD (lineShift.getD i 0)

theorem OutputBank.line_eq (o : OutputBank) (l : Fin 32) :
    o.line l = lineBit (o.get (Fin.ofNat 8 (l.val / 4))) (l.val % 4) := rfl

theorem OutputBank.get_set_same (o : OutputBank) (k : Fin 8) (v : BitVec 4) : (o.set k v).get k = v :=
  Vector.getElem_set_self k.isLt

theorem OutputBank.get_set (o : OutputBank) (k t : Fin 8) (v : BitVec 4) :
    (o.set k v).get t = if t = k then v else o.get t := by
  split
  next h => rw [h, OutputBank.get_set_same]
  next h => exact OutputBank.get_set_other o v (Ne.symm h)

/-- The latch of a line below 16 is one that an output write can set. -/
theorem latch_eq_castLE_iff {n : Fin 4} {l : Fin 32} :
    Fin.ofNat 8 (l.val / 4) = n.castLE (by decide) ↔ l.val / 4 = n.val := by
  rw [Fin.ext_iff, Fin.val_ofNat, Fin.val_castLE]
  omega

/-- A line after an output write: only the four lines of its latch may change. -/
theorem OutputBank.line_set (o : OutputBank) (n : Fin 4) (v : BitVec 4) (l : Fin 32) :
    (o.set (n.castLE (by decide)) v).line l =
      if l.val / 4 = n.val then lineBit v (l.val % 4) else o.line l := by
  rw [OutputBank.line_eq, OutputBank.get_set, apply_ite (lineBit · (l.val % 4))]
  exact if_congr latch_eq_castLE_iff rfl rfl

/-! ### The edges of an output write -/

/-- The edges are the changed lines of the latch, in line order (46_identity_output.md R272). -/
theorem outEdges_eq (n : Fin 4) (old new : BitVec 4) :
    outEdges n old new =
      ((List.range 4).filter fun i => lineBit new i != lineBit old i).map fun i =>
        .edge (Fin.ofNat 32 (4 * n.val + i)) (lineBit new i) := by
  rw [← List.filterMap_eq_map', List.filterMap_filter]
  refine List.filterMap_congr fun i _ => ?_
  simp only [bne_iff_ne, ne_eq, ite_not]
  rfl

/-- A line has an edge iff it is one of the latch's lines and changes. -/
theorem edge_mem_outEdges {n : Fin 4} {old new : BitVec 4} {l : Fin 32} {v : Bool} :
    CallOut.edge l v ∈ outEdges n old new ↔
      l.val / 4 = n.val ∧ lineBit new (l.val % 4) = v ∧ lineBit old (l.val % 4) ≠ v := by
  simp only [outEdges_eq, List.mem_map, List.mem_filter, List.mem_range, bne_iff_ne]
  constructor
  · rintro ⟨i, ⟨hi, hchange⟩, hedge⟩
    obtain ⟨rfl, rfl⟩ := CallOut.edge.inj hedge
    have hline : (Fin.ofNat 32 (4 * n.val + i)).val = 4 * n.val + i := by
      rw [Fin.val_ofNat]; omega
    have hplace : (4 * n.val + i) % 4 = i := by omega
    rw [hline, hplace]
    exact ⟨by omega, rfl, hchange.symm⟩
  · rintro ⟨hlatch, rfl, hchange⟩
    have hline : Fin.ofNat 32 (4 * n.val + l.val % 4) = l := by
      rw [Fin.ext_iff, Fin.val_ofNat]; omega
    exact ⟨l.val % 4, ⟨Nat.mod_lt _ (by decide), hchange.symm⟩, by rw [hline]⟩

/-- The edges of an output write are its line changes. -/
theorem edge_mem_outEdges_iff_line_change (o : OutputBank) (n : Fin 4) (new : BitVec 4) (l : Fin 32)
    (v : Bool) :
    CallOut.edge l v ∈ outEdges n (o.get (n.castLE (by decide))) new ↔
      ((o.set (n.castLE (by decide)) new).line l = v ∧ o.line l ≠ v) := by
  rw [edge_mem_outEdges, OutputBank.line_set]
  by_cases hlatch : l.val / 4 = n.val
  · rw [if_pos hlatch, OutputBank.line_eq, latch_eq_castLE_iff.2 hlatch]
    exact and_iff_right hlatch
  · rw [if_neg hlatch]
    exact ⟨fun h => absurd h.1 hlatch, fun h => absurd h.1 h.2⟩

/-! ### The trace -/

/-- The operations that reset the output bank without an edge (70_reset_and_hazards.md R321, R322). -/
def ResetsBlock (f : FirmwareLoad) (i : Instr) : Prop :=
  i = .evReset ∨ ∃ d : Word, i = .wrFwStatus d ∧ f.initialized = true ∧ f.status.getLsbD 14 = true ∧
    d.getLsbD 14 = false

/-- Everything an instruction can do to the lines and the trace together. -/
inductive LineChange (s : State) (i : Instr) (t : State) : Prop
  | resets : ResetsBlock s.fw i → LineChange s i t
  /-- The lines stay, and no call-out is an edge. -/
  | quiet (new : List CallOut) : t.out = s.out → t.trace = s.trace ++ new →
      (∀ l v, CallOut.edge l v ∉ new) → LineChange s i t
  | output (n : Fin 4) (v : BitVec 4) : t.out = s.out.set (n.castLE (by decide)) v →
      t.trace = s.trace ++ outEdges n (s.out.get (n.castLE (by decide))) v → LineChange s i t

/-- An operation without a call-out that keeps the bank. -/
theorem LineChange.silent {s t : State} {i : Instr} (hout : t.out = s.out) (htrace : t.trace = s.trace) :
    LineChange s i t :=
  .quiet [] hout (by rw [htrace, List.append_nil]) fun _ _ => List.not_mem_nil

/-- A tick's only call-out is a byte to the decoder (44_mpeg_transfer.md R200). -/
theorem tick_trace (c : Config) (s : State) :
    ∃ bytes : List Byte, (s.tick c).trace = s.trace ++ bytes.map .byteSink := by
  obtain ⟨-, e⟩ | ⟨-, -, e⟩ | ⟨-, -, -, e⟩ | ⟨-, -, -, e⟩ := tick_cases c s <;> rw [e]
  · exact ⟨[], (List.append_nil _).symm⟩
  · exact ⟨[], (List.append_nil _).symm⟩
  · exact ⟨[_], rfl⟩
  · exact ⟨[_], rfl⟩

/-- A pump's call-outs are a frame's bytes to the ports, of the empty frame where nothing is sent
(45_network.md R241, R242). -/
theorem pump_trace (c : Config) (s : State) :
    ∃ frame, (s.pump c).trace = s.trace ++ frameWrites c s.env frame := by
  cases hgate : s.fw.initialized with
  | true => exact ⟨_, by rw [pump_of_open c hgate, State.emit_trace]⟩
  | false => exact ⟨[], by rw [pump_of_closed c hgate]; exact (List.append_nil _).symm⟩

theorem firmwareBitWrite_trace (c : Config) (d : Word) (s : State) :
    (s.firmwareBitWrite c d).trace = s.trace := by
  rw [firmwareBitWrite_frame]

theorem edge_not_mem_map_byteSink (bytes : List Byte) (l : Fin 32) (v : Bool) :
    CallOut.edge l v ∉ bytes.map .byteSink := by simp

theorem edge_not_mem_frameWrites (c : Config) (e : Env) (frame : List Byte) (l : Fin 32) (v : Bool) :
    CallOut.edge l v ∉ frameWrites c e frame := fun h => by
  obtain ⟨_, _, hport⟩ := exists_portWrite_of_mem_frameWrites h
  cases hport

theorem statusWrite_lines (s : State) (d : Word) :
    LineChange s (.wrFwStatus d) ((s.statusWrite d).answer none) := by
  obtain ⟨-, e⟩ | ⟨-, -, e⟩ | ⟨hopen, hloaded, hclear, e⟩ := statusWrite_cases d s <;> rw [e]
  · exact .silent rfl rfl
  · exact .silent rfl rfl
  · rw [FirmwareLoad.loaded_eq] at hloaded
    exact .resets (.inr ⟨d, rfl, hopen, hloaded, (and_loaded_eq_zero_iff d).1 hclear⟩)

theorem exec_lines {i : Instr} {s t : State} (h : exec i s = .next t) : LineChange s i t := by
  cases exec_next h with
  | status d => exact statusWrite_lines s d
  | bit d => exact .silent (firmwareBitWrite_out _ d s) (firmwareBitWrite_trace _ d s)
  | reset => exact .resets (.inl rfl)
  | control d =>
    refine .quiet _ rfl (State.ctrlWrite_trace s _ d) fun l v => ?_
    split <;> simp
  | tick =>
    obtain ⟨bytes, htrace⟩ := tick_trace Config.board s
    exact .quiet _ (tick_out _ s) htrace (edge_not_mem_map_byteSink bytes)
  | pump =>
    obtain ⟨frame, htrace⟩ := pump_trace Config.board s
    exact .quiet _ (pump_out _ s) htrace (edge_not_mem_frameWrites _ _ frame)
  | identWrite d => exact .quiet [_] rfl rfl fun l v => by simp
  | output _ n d _ => exact .output n _ rfl rfl
  | _ => exact .silent rfl rfl

/-- Unless the block is reset, what is emitted has an edge exactly where a line changes. -/
theorem LineChange.edges_iff {s t : State} {i : Instr} (h : LineChange s i t)
    (hkeep : ¬ ResetsBlock s.fw i) :
    ∃ new, t.trace = s.trace ++ new ∧
      ∀ l v, CallOut.edge l v ∈ new ↔ (t.out.line l = v ∧ s.out.line l ≠ v) := by
  cases h with
  | resets hreset => exact absurd hreset hkeep
  | quiet new hout htrace hnone =>
    refine ⟨new, htrace, fun l v => iff_of_false (hnone l v) ?_⟩
    rw [hout]
    exact fun ⟨hsame, hchange⟩ => hchange hsame
  | output n v hout htrace =>
    refine ⟨_, htrace, fun l b => ?_⟩
    rw [hout]
    exact edge_mem_outEdges_iff_line_change s.out n v l b

/-! ### The output registers with the gate open -/

/-- The write of output register `n` (30_encoding.md R63). -/
def outputInstr (n : Fin 4) (data : Word) : Instr :=
  match n with
  | 0 => .wrOut0 data
  | 1 => .wrOut1 data
  | 2 => .wrOut2 data
  | 3 => .wrOut3 data

theorem exec_outputInstr_of_live {s : State} (hs : s.live) (n : Fin 4) (data : Word) :
    exec (outputInstr n data) s = .next ((s.outWrite n data).answer none) := by
  match n with
  | 0 | 1 | 2 | 3 => exact writeGated_of_live hs _

theorem outputNibble_eq (data : Word) : outputNibble data = BitVec.ofNat 4 (data.toNat / 2 ^ 12) := by
  rw [outputNibble, BitVec.extractLsb', Nat.shiftRight_eq_div_pow]

/-! ### The statements -/

/-- Settles O53: an instruction that resets nothing moves lines only by an output write, and no other
call-out is an edge. -/
theorem edgesAreTheLineChanges : Obligations.EdgesAreTheLineChanges := by
  intro i s t h hreset hstatus
  refine (exec_lines h).edges_iff ?_
  rintro (hi | ⟨d, hi, hopen, hloaded, hclear⟩)
  · exact hreset hi
  · exact Bool.false_ne_true (hclear.symm.trans (hstatus d hi hopen hloaded))

/-- Settles O52: the latch bit of each of the four lines is the statement's. -/
theorem outputWriteEmitsEdges : Obligations.OutputWriteEmitsEdges := by
  intro s data n hrun hopen i tag bit new
  have htag : n.castLE (by decide) = tag := by
    rw [Fin.ext_iff, Fin.val_castLE, Fin.val_ofNat]; omega
  have hbit : ∀ k ∈ [0, 1, 2, 3], ∀ v, lineBit v k = bit v k := by
    simp [bit, lineBit, lineShift]
  have hlatch : (s.outWrite n data).out = s.out.set tag new := by
    rw [State.outWrite_out, htag, outputNibble_eq]
  refine ⟨_, exec_outputInstr_of_live ⟨hrun, hopen⟩ n data, rfl, fun k => ?_, ?_⟩
  · rw [State.answer_out, hlatch]
    exact OutputBank.get_set s.out tag k new
  · have hchanged : ((List.range 4).filter fun k => lineBit new k != lineBit (s.out.get tag) k) =
        [0, 1, 2, 3].filter fun k => bit new k != bit s.out.latch[tag] k :=
      List.filter_congr fun k hk => by rw [hbit k hk, hbit k hk]; rfl
    rw [State.answer_trace, State.outWrite_trace, outEdges_eq, htag, outputNibble_eq, hchanged]
    refine congrArg (s.trace ++ ·) (List.map_congr_left fun k hk => ?_)
    rw [hbit k (List.mem_of_mem_filter hk)]

end Sys2Proof.Machine
end

section
/-! PROOFS. The identity bridge, and the reads that are refused while the gate is open
(46_identity_output.md R270, R271, R277, R278, 41_gate.md R108). -/

namespace Sys2Proof.Machine

/-- The identity value is the line at bit 12 with bit 8 set (46_identity_output.md R270). -/
theorem identityValue_eq (line : Bool) : identityValue line = if line then 0x1100 else 0x0100 := by
  cases line <;> rfl

section
variable {s : State} (hs : s.live)
include hs

theorem exec_rdIdent_of_live :
    exec .rdIdent s =
      .next ({ s with ident := { cache := identityValue s.env.idLine } }.answer
        (some (identityValue s.env.idLine))) :=
  readGated_of_live hs (fun s => identityValue s.env.idLine)
    fun s => { s with ident := { cache := identityValue s.env.idLine } }

theorem exec_irdIdent_of_live : exec .irdIdent s = .next (s.answer (some s.ident.cache)) :=
  peekGated_of_live hs fun s => s.ident.cache

theorem exec_wrIdent_of_live (d : Word) :
    exec (.wrIdent d) s = .next ((s.emit [.identityLine (identityDrive d)]).answer none) :=
  writeGated_of_live hs fun s => s.emit [.identityLine (identityDrive d)]

end

/-- A read that is refused while the gate is open, in both states of the gate (40_bus.md R81, R83). -/
theorem readRefused_of_completed {s : State} (h : s.refused = none) (r : Reason) :
    readRefused s r =
      .next (if s.fw.initialized then s.refuse r else s.answer (some sentinel)) :=
  perform_of_completed h fun s => if s.gateOpen then s.refuse r else s.answer (some sentinel)

/-- Settles O51. -/
theorem identityReadsAndDrives : Obligations.IdentityReadsAndDrives := by
  intro s d hrun hopen v
  have hs : s.live := ⟨hrun, hopen⟩
  have hv : identityValue s.env.idLine = v := identityValue_eq _
  refine ⟨?_, exec_irdIdent_of_live hs, exec_wrIdent_of_live hs d⟩
  rw [exec_rdIdent_of_live hs, hv]
  rfl

/-- Settles O10: both registers' reads are refused reads, of different reasons. -/
theorem bankAndFirmwareDataReads : Obligations.BankAndFirmwareDataReads := by
  intro s hrun
  refine ⟨fun i hi => ?_, readRefused_of_completed hrun _, readRefused_of_completed hrun _⟩
  obtain rfl | rfl := hi <;> exact readRefused_of_completed hrun _

end Sys2Proof.Machine
end

section
/-! PROOFS. The power-on state and the controller reset (70_reset_and_hazards.md R320, R321). -/

namespace Sys2Proof.Machine

/-- Settles O55, component by component: an empty table reads its default everywhere. -/
theorem powerOnValues : Obligations.PowerOnValues :=
  ⟨rfl, rfl, rfl, rfl, rfl, fun _ => rfl,
    fun _ => rfl, rfl, rfl, rfl,
    rfl, rfl, rfl, rfl,
    rfl, rfl, rfl, rfl, rfl, rfl, rfl, rfl, rfl, rfl, rfl, rfl, rfl,
    rfl,
    fun _ => rfl, rfl, rfl, rfl, rfl, rfl,
    by decide, rfl, rfl⟩

/-- Settles O56: the event stands outside the gate, and its effect is the reset written out. -/
theorem controllerResetRestoresPowerOn : Obligations.ControllerResetRestoresPowerOn :=
  fun _ hrun => writeUngated_of_completed hrun State.controllerReset

theorem addressesMasked_reset : AddressesMasked State.reset := by decide

theorem tablesBounded_reset : TablesBounded State.reset :=
  ⟨(fun _ hp => nomatch hp), (fun _ hp => nomatch hp)⟩

theorem framed_reset : Framed NetState.reset :=
  ⟨.inl rfl, fun _ => .inl rfl, fun _ hf => nomatch hf⟩

theorem upperLatchesZero_reset : UpperLatchesZero OutputBank.reset := by
  unfold UpperLatchesZero
  decide

/-- A block whose components 2 to 7 are reset is inert (70_reset_and_hazards.md R321, R322). -/
theorem inert_rezero (s : State) : Inert s.rezero := ⟨rfl, rfl, rfl, rfl, rfl, rfl⟩

/-- Settles O57, invariant by invariant. -/
theorem invariantsHoldAtReset : Obligations.InvariantsHoldAtReset :=
  ⟨addressesMasked_reset, reset_tables_wf, tablesBounded_reset, gateCounted_reset 0, framed_reset, rfl,
    upperLatchesZero_reset, inert_rezero State.reset⟩

end Sys2Proof.Machine
end

section
/-! PROOFS. The closed gate stays inert (70_reset_and_hazards.md R325): the writes are gated, and with every
enable clear the ungated events move the three callback bits only. -/

namespace Sys2Proof.Machine

/-! ### The engine with nothing enabled -/

theorem frameCountEn_zero (c : Config) : frameCountEn c 0 = false := BitVec.getLsbD_zero
theorem streamEn_zero (c : Config) : streamEn c 0 = false := BitVec.getLsbD_zero

/-- With frame counting off a frame-sync stores its level only (44_mpeg_transfer.md R203). -/
theorem frameSync_of_not_frameCountEn {c : Config} {m : MpegChannel} (h : frameCountEn c m.ctrl = false)
    (b : Bool) : m.frameSync c b = { m with playing := b } := by
  rw [frameSync_eq, if_neg fun ⟨_, hcount⟩ => Bool.eq_false_iff.1 h hcount]

/-- With the timer off a frame-identification does nothing (44_mpeg_transfer.md R205). -/
theorem frameIdent_of_not_timerEnabled {m : MpegChannel} (h : m.timerEnabled = false) (c : Config)
    (b : Bool) : m.frameIdent c b = m := by
  rw [frameIdent_eq, if_neg fun ⟨_, htimer, _⟩ => Bool.eq_false_iff.1 h htimer]

/-- With streaming off a tick does nothing (44_mpeg_transfer.md R200). -/
theorem tick_of_not_streamEn {c : Config} {s : State} (h : streamEn c s.mpeg.ctrl = false) :
    s.tick c = s := by
  refine tick_of_idle (fun hend => ?_) (fun hsends => ?_)
  · obtain ⟨-, hstream, -⟩ := (s.mpeg.atEnd_iff c).1 hend
    exact Bool.eq_false_iff.1 h hstream
  · obtain ⟨-, -, hstream, -⟩ := (s.mpeg.sends_iff c).1 hsends
    exact Bool.eq_false_iff.1 h hstream

/-! ### Inert states -/

section
variable {s : State} (h : Inert s)
include h

theorem Inert.ctrl : s.mpeg.ctrl = 0 := by
  obtain ⟨-, -, hmpeg, -⟩ := h
  rw [hmpeg]
  rfl

theorem Inert.timerEnabled : s.mpeg.timerEnabled = false := by
  obtain ⟨-, -, hmpeg, -⟩ := h
  rw [hmpeg]
  rfl

/-- The callback bits are free in an inert state (40_bus.md R87). -/
theorem Inert.withCallbacks (demand crcError playing : Bool) :
    Inert (s.withMpeg { s.mpeg with demand := demand, crcError := crcError, playing := playing }) := by
  obtain ⟨hstore, hcipher, hmpeg, hident, hnet, hout⟩ := h
  refine ⟨hstore, hcipher, ?_, hident, hnet, hout⟩
  rw [State.withMpeg_mpeg, hmpeg]

theorem Inert.frameSync (c : Config) (b : Bool) : Inert (s.withMpeg (s.mpeg.frameSync c b)) := by
  have hcount : frameCountEn c s.mpeg.ctrl = false := h.ctrl ▸ frameCountEn_zero c
  rw [frameSync_of_not_frameCountEn hcount]
  exact h.withCallbacks s.mpeg.demand s.mpeg.crcError b

theorem Inert.frameIdent (c : Config) (b : Bool) : Inert (s.withMpeg (s.mpeg.frameIdent c b)) := by
  rw [frameIdent_of_not_timerEnabled h.timerEnabled]
  exact h

theorem Inert.tick (c : Config) : Inert (s.tick c) := by
  rw [tick_of_not_streamEn (h.ctrl ▸ streamEn_zero c)]
  exact h

end

/-! ### The step -/

/-- The invariant of R325: an open gate, or an inert block. -/
def ClosedInert (s : State) : Prop := s.fw.initialized = false → Inert s

theorem ClosedInert.statusWrite {s : State} (hs : ClosedInert s) (d : Word) :
    ClosedInert (s.statusWrite d) := by
  obtain ⟨hclosed, e⟩ | ⟨hopen, -, e⟩ | ⟨-, -, -, e⟩ :=
    statusWrite_cases d s <;> rw [e] <;> intro ht
  · exact hs hclosed
  · cases hopen.symm.trans ht
  · exact inert_rezero s

theorem ClosedInert.firmwareBitWrite {s : State} (hs : ClosedInert s) (c : Config) (d : Word) :
    ClosedInert (s.firmwareBitWrite c d) := by
  obtain ⟨-, e⟩ | ⟨hclosed, -, -, e⟩ | ⟨-, -, -, e⟩ :=
    firmwareBitWrite_cases c d s <;> rw [e] <;> intro ht
  · exact hs ht
  · exact hs hclosed
  · cases ht

/-- The effects that need the open gate leave it open; of the others only a callback moves an inert
block. -/
theorem exec_keeps_closedInert {i : Instr} {s t : State} (hs : ClosedInert s) (h : exec i s = .next t) :
    ClosedInert t := by
  cases exec_next h with
  | quiet => exact hs
  | status d => exact hs.statusWrite d
  | bit d => exact hs.firmwareBitWrite Config.board d
  | reset => exact fun _ => inert_rezero s
  | frameSync b => exact fun ht => (hs ht).frameSync Config.board b
  | demand b => exact fun ht => (hs ht).withCallbacks b s.mpeg.crcError s.mpeg.playing
  | crcError b => exact fun ht => (hs ht).withCallbacks s.mpeg.demand b s.mpeg.playing
  | frameIdent b => exact fun ht => (hs ht).frameIdent Config.board b
  | tick => exact fun ht => (hs (tick_fw _ s ▸ ht)).tick Config.board
  | pump =>
    intro ht
    have hclosed : s.fw.initialized = false := pump_fw Config.board s ▸ ht
    rw [pump_of_closed _ hclosed]
    exact hs hclosed
  | _ => exact fun ht => nomatch ht.symm.trans (‹s.live›.2)

/-- Settles O58: every instruction keeps the invariant, and taking an arrival or refusing it touches none of
its fields. -/
theorem closedGateStaysInert : Obligations.ClosedGateStaysInert := fun _ _ hs h =>
  step_keeps (P := ClosedInert) (fun _ _ _ hs => hs) (fun _ _ hs => hs)
    (fun _ _ _ hs he => exec_keeps_closedInert hs he) hs h

end Sys2Proof.Machine
end

section
/-! PROOFS. The firmware load from power-on, bit by bit (41_gate.md R105, R106, R107,
70_reset_and_hazards.md R323, R342). -/

namespace Sys2Proof.Machine

/-! ### The bits of an image -/

/-- Bit `n` of an image as `fwload` sends it, the most significant bit of each byte first
(30_encoding.md R69). -/
def imageBit (img : List Byte) (n : Nat) : Bool := (img.getD (n / 8) 0).getLsbD (7 - n % 8)

theorem imageBit_cons_add (x : Byte) (img : List Byte) (n : Nat) :
    imageBit (x :: img) (8 + n) = imageBit img n := by
  rw [imageBit, imageBit, Nat.add_div_left n (by decide), Nat.add_mod_left, List.getD_cons_succ]

theorem imageBit_cons_of_lt (x : Byte) (img : List Byte) {n : Nat} (hn : n < 8) :
    imageBit (x :: img) n = x.getLsbD (7 - n) := by
  rw [imageBit, Nat.div_eq_of_lt hn, Nat.mod_eq_of_lt hn, List.getD_cons_zero]

theorem fwbyte_eq (x : Byte) : fwbyte x = (List.range 8).map fun n => fwbit (x.getLsbD (7 - n)) := by
  have hplaces : [7, 6, 5, 4, 3, 2, 1, 0] = (List.range 8).map fun n => 7 - n := by decide
  rw [fwbyte, hplaces, List.map_map]
  rfl

/-- A load is one firmware bit for each bit of the image. -/
theorem fwload_eq (img : List Byte) :
    fwload img = (List.range (8 * img.length)).map fun n => fwbit (imageBit img n) := by
  induction img with
  | nil => rfl
  | cons x img ih =>
    have hbyte : fwbyte x = (List.range 8).map fun n => fwbit (imageBit (x :: img) n) := by
      rw [fwbyte_eq]
      exact List.map_congr_left fun n hn => by rw [imageBit_cons_of_lt x img (List.mem_range.1 hn)]
    have hrest : fwload img = (List.range (8 * img.length)).map
        fun n => fwbit (imageBit (x :: img) (8 + n)) := by
      simp only [ih, imageBit_cons_add]
    calc fwload (x :: img)
        = fwbyte x ++ fwload img := List.flatMap_cons
      _ = (List.range (8 + 8 * img.length)).map fun n => fwbit (imageBit (x :: img) n) := by
        rw [List.range_add, List.map_append, List.map_map, hbyte, hrest]
        rfl
      _ = _ := by rw [List.length_cons, Nat.mul_succ, Nat.add_comm]

@[simp] theorem firmwareBit_ofBool (b : Bool) :
    firmwareBit ((BitVec.ofBool b).setWidth 16 <<< 15) = b := by
  cases b <;> rfl

/-! ### The loader after some of the bits -/

/-- The loader armed at power-on (41_gate.md R101). -/
def armed : FirmwareLoad := { FirmwareLoad.reset with status := 0x1000, preInit := true }

/-- The armed loader after the first `n` bits of an image. -/
def loaderAfter (img : List Byte) : Nat → FirmwareLoad
  | 0 => armed
  | n + 1 => (loaderAfter img n).takeBit (imageBit img n)

@[simp] theorem loaderAfter_status (img : List Byte) (n : Nat) : (loaderAfter img n).status = 0x1000 := by
  induction n with
  | zero => rfl
  | succ n ih => rw [loaderAfter, takeBit_status, ih]

@[simp] theorem loaderAfter_initialized (img : List Byte) (n : Nat) :
    (loaderAfter img n).initialized = false := by
  induction n with
  | zero => rfl
  | succ n ih => rw [loaderAfter, takeBit_initialized, ih]

@[simp] theorem loaderAfter_preInit (img : List Byte) (n : Nat) : (loaderAfter img n).preInit = true := by
  induction n with
  | zero => rfl
  | succ n ih => rw [loaderAfter, takeBit_preInit, ih]

theorem loaderAfter_accept (img : List Byte) (n : Nat) : (loaderAfter img n).accept = true := by
  rw [FirmwareLoad.accept, loaderAfter_status]
  rfl

/-- What a loader holds of an image's first `n` bits: the whole bytes stored, and the bits of the next one at
the top of the pending byte (41_gate.md R105). -/
structure HoldsBits (img : List Byte) (n : Nat) (f : FirmwareLoad) : Prop where
  count : f.bitsReceived.toNat = n
  canonical : f.image.wf
  listed : ∀ p ∈ f.image, p.1 < f.bitsReceived.toNat / 8
  stored : ∀ k, f.image.read k = if k < n / 8 then img.getD k 0 else 0
  pending : ∀ j < 8, f.pendingByte.getLsbD j = (decide (8 ≤ j + n % 8) && (img.getD (n / 8) 0).getLsbD j)

theorem holdsBits_armed (img : List Byte) : HoldsBits img 0 armed where
  count := rfl
  canonical := reset_tables_wf.2.1
  listed := fun _ hp => nomatch hp
  stored := fun _ => rfl
  pending := fun j hj => by
    rw [decide_eq_false (by omega), Bool.false_and]
    exact BitVec.getLsbD_zero

theorem getLsbD_withBit (b : Bool) (f : FirmwareLoad) (j : Nat) :
    (f.withBit b).getLsbD j =
      (f.pendingByte.getLsbD j || (decide (j = 7 - f.bitsReceived.toNat % 8) && b)) := by
  rw [withBit_eq, BitVec.getLsbD_or]
  cases b with
  | false => simp
  | true =>
    rw [if_pos rfl, Bool.and_true]
    congr 1
    refine (BitVec.getLsbD_twoPow _ _).trans ?_
    rw [decide_eq_true (by omega), Bool.true_and]
    exact decide_eq_decide.2 eq_comm

section
variable {img : List Byte} {n : Nat} {f : FirmwareLoad} (h : HoldsBits img n f)
include h

/-- The pending byte with the next bit of the image holds one bit more of the byte in progress. -/
theorem HoldsBits.getLsbD_next {j : Nat} (hj : j < 8) :
    (f.withBit (imageBit img n)).getLsbD j =
      (decide (8 ≤ j + (n % 8 + 1)) && (img.getD (n / 8) 0).getLsbD j) := by
  rw [getLsbD_withBit, h.pending j hj, h.count]
  by_cases hnext : j = 7 - n % 8
  · rw [decide_eq_false (by omega), decide_eq_true hnext, decide_eq_true (by omega), Bool.false_and,
      Bool.false_or, imageBit, ← hnext]
  · rw [decide_eq_false hnext, Bool.false_and, Bool.or_false]
    congr 2
    rw [eq_iff_iff]
    omega

/-- The eighth bit completes the byte. -/
theorem HoldsBits.withBit_of_byteEnd (h8 : n % 8 = 7) : f.withBit (imageBit img n) = img.getD (n / 8) 0 :=
  BitVec.eq_of_getLsbD_eq fun j hj => by
    rw [h.getLsbD_next hj, decide_eq_true (by omega), Bool.true_and]

/-- Where the next bit goes: the eighth bit stores the byte in progress, any other is left pending
(41_gate.md R105). -/
theorem HoldsBits.stored_pending_takeBit (hn : n < fwBits) :
    (∀ k, (f.takeBit (imageBit img n)).image.read k = if k < (n + 1) / 8 then img.getD k 0 else 0) ∧
      ∀ j < 8, (f.takeBit (imageBit img n)).pendingByte.getLsbD j =
        (decide (8 ≤ j + (n + 1) % 8) && (img.getD ((n + 1) / 8) 0).getLsbD j) := by
  have hbytes := takeBit_bytes (imageBit img n) (h.count ▸ hn) h.canonical
  rw [h.count] at hbytes
  by_cases h8 : (n + 1) % 8 = 0
  · rw [if_pos h8, h.withBit_of_byteEnd (by omega), show (n + 1) / 8 - 1 = n / 8 by omega] at hbytes
    obtain ⟨hpending, hnew, hold⟩ := hbytes
    refine ⟨fun k => ?_, fun j hj => ?_⟩
    · by_cases hk : k = n / 8
      · rw [hk, hnew, if_pos (by omega)]
      · rw [hold k hk, h.stored]
        exact if_congr (by omega) rfl rfl
    · rw [hpending, h8, decide_eq_false (by omega), Bool.false_and]
      exact BitVec.getLsbD_zero
  · rw [if_neg h8] at hbytes
    obtain ⟨hpending, himage⟩ := hbytes
    have hdiv : (n + 1) / 8 = n / 8 := by omega
    rw [himage, hpending, hdiv]
    refine ⟨h.stored, fun j hj => ?_⟩
    rw [h.getLsbD_next hj, show (n + 1) % 8 = n % 8 + 1 by omega]

theorem HoldsBits.takeBit (hn : n < fwBits) : HoldsBits img (n + 1) (f.takeBit (imageBit img n)) := by
  have hlt : f.bitsReceived.toNat < fwBits := h.count ▸ hn
  obtain ⟨hstored, hpending⟩ := h.stored_pending_takeBit hn
  exact
    { count := by rw [takeBit_bitsReceived, toNat_bitsReceived_succ hlt, h.count]
      canonical := takeBit_image_wf _ h.canonical
      listed := takeBit_image_received _ hlt h.listed
      stored := hstored
      pending := hpending }

end

theorem holdsBits_loaderAfter (img : List Byte) {n : Nat} (hn : n ≤ fwBits) :
    HoldsBits img n (loaderAfter img n) := by
  induction n with
  | zero => exact holdsBits_armed img
  | succ n ih => exact (ih (Nat.le_of_succ_le hn)).takeBit hn

/-! ### The run -/

/-- Power-on but for the firmware load. -/
def State.loading (f : FirmwareLoad) : State := { State.reset with fw := f }

theorem exec_arming : exec (.wrFwStatus 0x8000) State.reset = .next (State.loading armed) :=
  exec_wrFwStatus_of_completed rfl _

/-- The next bit of an image is accepted, and the last one completes the load (41_gate.md R105, R106). -/
theorem exec_imageBit (img : List Byte) {n : Nat} (hn : n < fwBits) :
    exec (fwbit (imageBit img n)) (State.loading (loaderAfter img n)) =
      .next (if n + 1 = fwBits then (State.loading (loaderAfter img (n + 1))).loadComplete Config.board
        else State.loading (loaderAfter img (n + 1))) := by
  rw [fwbit, exec_wrFwData_of_completed rfl,
    firmwareBitWrite_of_accepted _ _ (loaderAfter_initialized img n) (loaderAfter_accept img n),
    firmwareBit_ofBool]
  have hcount : (State.loading (loaderAfter img n)).fw.bitsReceived.toNat = n :=
    (holdsBits_loaderAfter img (Nat.le_of_lt hn)).count
  rw [hcount]
  split <;> rfl

/-- Arming and then the first `n` bits of an image. -/
def armThenBits (img : List Byte) (n : Nat) : List Instr :=
  .wrFwStatus 0x8000 :: (List.range n).map fun k => fwbit (imageBit img k)

theorem armThenBits_succ (img : List Byte) (n : Nat) :
    armThenBits img (n + 1) = armThenBits img n ++ [fwbit (imageBit img n)] := by
  rw [armThenBits, armThenBits, List.range_succ, List.map_append, List.cons_append, List.map_singleton]

/-- Below the full count every bit is taken, and the load goes on. -/
theorem execAll_armThenBits (img : List Byte) {n : Nat} (hn : n < fwBits) :
    execAll (armThenBits img n) State.reset = .next (State.loading (loaderAfter img n)) := by
  induction n with
  | zero => exact (execAll_singleton _ _).trans exec_arming
  | succ n ih =>
    have hn' : n < fwBits := Nat.lt_of_succ_lt hn
    rw [armThenBits_succ]
    refine execAll_append_next (ih hn') ((execAll_singleton _ _).trans ?_)
    rw [exec_imageBit img hn', if_neg (Nat.ne_of_lt hn)]

/-- The last bit completes the load. -/
theorem execAll_armThenBits_full (img : List Byte) {n : Nat} (hn : n = fwBits) :
    execAll (armThenBits img n) State.reset =
      .next ((State.loading (loaderAfter img n)).loadComplete Config.board) := by
  cases n with
  | zero => cases hn
  | succ n =>
    have hn' : n < fwBits := Nat.lt_of_succ_le (Nat.le_of_eq hn)
    rw [armThenBits_succ]
    refine execAll_append_next (execAll_armThenBits img hn') ((execAll_singleton _ _).trans ?_)
    rw [exec_imageBit img hn', if_pos hn]

/-! ### The full load -/

section
variable {img : List Byte} {f : FirmwareLoad} (h : HoldsBits img fwBits f)
include h

theorem HoldsBits.read_of_full (himg : img.length = fwBytes) (k : Nat) : f.image.read k = img.getD k 0 := by
  rw [h.stored]
  split
  next => rfl
  next hk => exact (List.getD_eq_default _ _ (himg ▸ Nat.le_of_not_lt hk)).symm

theorem HoldsBits.pendingByte_of_full : f.pendingByte = 0 :=
  BitVec.eq_of_getLsbD_eq fun j hj => by
    have hnone : ¬ 8 ≤ j + fwBits % 8 := Nat.not_le.2 hj
    rw [h.pending j hj, decide_eq_false hnone, Bool.false_and]
    exact BitVec.getLsbD_zero.symm

theorem HoldsBits.isImage_of_full : IsImage f.image :=
  ⟨h.canonical, fun p hp => by
    have hlt := h.listed p hp
    rw [h.count] at hlt
    exact hlt⟩

theorem HoldsBits.bitsReceived_of_full : f.bitsReceived = BitVec.ofNat 32 fwBits :=
  BitVec.eq_of_toNat_eq h.count

/-- The variant is chosen by the checksum of the bytes sent (41_gate.md R106). -/
theorem HoldsBits.selectVariant_of_full (himg : img.length = fwBytes) (c : Config) :
    selectVariant c f.image =
      if c.fwChecksum (Vector.ofFn fun k => img.getD k.val 0) = c.altChecksum then .alternate
      else .default := by
  rw [selectVariant, imageBytes]
  simp only [h.read_of_full himg]

end

/-- A completed load is a launch state of the variant its image selects (70_reset_and_hazards.md R342). -/
theorem loadComplete_eq_launchOpen (c : Config) {img : List Byte} {f : FirmwareLoad}
    (hstatus : f.status = 0x1000) (hpre : f.preInit = true) (h : HoldsBits img fwBits f) :
    (State.loading f).loadComplete c = State.launchOpen c f.image := by
  have hfw : { f with status := f.status ||| 0x6000, initialized := true } =
      (State.launchOpen c f.image).fw := by
    rw [hstatus, hpre, h.pendingByte_of_full, h.bitsReceived_of_full]
    rfl
  rw [State.loadComplete, State.loading, hfw]
  rfl

theorem execAll_fullLoad (img : List Byte) :
    ∃ f, HoldsBits img fwBits f ∧
      execAll (armThenBits img fwBits) State.reset = .next (State.launchOpen Config.board f.image) := by
  have hfull := holdsBits_loaderAfter img (Nat.le_refl fwBits)
  refine ⟨_, hfull, ?_⟩
  rw [execAll_armThenBits_full img rfl, loadComplete_eq_launchOpen _ (loaderAfter_status img _)
    (loaderAfter_preInit img _) hfull]

/-- Settles O17: a load is the image's bits one after another; the loader holds the bits sent so far, and the
last one completes it. -/
theorem firmwareLoadOpensTheGate : Obligations.FirmwareLoadOpensTheGate := by
  intro img himg
  have hbits : 8 * img.length = fwBits := by rw [himg]; rfl
  have hload : .wrFwStatus 0x8000 :: fwload img = armThenBits img fwBits := by
    rw [fwload_eq, hbits, armThenBits]
  refine ⟨?_, fun n hn => ⟨State.loading (loaderAfter img n), ?_, loaderAfter_initialized img n,
    (holdsBits_loaderAfter img (Nat.le_of_lt hn)).count⟩⟩
  · obtain ⟨f, hfull, hrun⟩ := execAll_fullLoad img
    rw [hload]
    refine ⟨_, hrun, rfl, rfl, rfl, rfl, rfl, hfull.read_of_full himg, ?_, f.image,
      hfull.isImage_of_full, rfl, rfl⟩
    rw [← hfull.selectVariant_of_full himg]
    rfl
  · rw [fwload_eq, hbits, ← List.map_take, List.take_range, Nat.min_eq_left (Nat.le_of_lt hn)]
    exact execAll_armThenBits img hn

end Sys2Proof.Machine
end
